-- ==== Sys2Proof/Word.lean ====
section
/-! DEFINITION. The word types of the DK8: the byte of the station and field frames, and deck time. Everything else
the manual counts (levels, speeds, watts, tickets) is a plain natural number with the range its chapter gives it. -/

namespace Sys2Proof

/-- A byte of a station frame or of a field loop frame (section 9.8). -/
abbrev Byte := BitVec 8

/-- Deck time: a 32-bit count of tenths of a second that returns to 0 after 4,294,967,295 (R186). -/
abbrev Time := BitVec 32

/-- The 16-bit check code of every frame (Conventions, "Byte order and check codes"). -/
abbrev Check := BitVec 16

end Sys2Proof
end

