-- ==== Sys2Proof/Config.lean ====
section
/-! DEFINITION. What the manual leaves open and the machine goes on over: free values, each an opaque constant, so that
nothing can be proved of the value it has. Each is named in the assumption log. -/

namespace Sys2Proof.Config

/-- FREE VALUE (log entry 20): the level of a channel's direction line while RESET_N holds the part in restart.
R193 gives the FPUL and FRUN levels there and says of the rest "its outputs take their restart levels". -/
opaque restartDirectionLine : Nat → Bool

/-- FREE VALUE (log entry 21): what the head record keeps as raw reading when a gas reply carries one above 4095.
R165 says how such a reply is judged (as a SENSOR_FAULT), not what the raw field then holds. -/
opaque storedOutOfRangeReading : Nat → Nat

/-- FREE VALUE (log entry 22): the level of a port's NOTICE line while RESET_N holds the part in restart; the manual says
only that the outputs take their restart levels (R193). -/
opaque restartNoticeLine : Nat → Bool

/-- FREE VALUE (log entry 41): what a port's SDO shifts out while RESET_N holds the part in restart with a transaction active;
R193 says only that the outputs take their restart levels. -/
opaque restartPortOutput : Nat → List Byte

/-- FREE VALUE (log entry 41): the level of FTX while RESET_N holds the part in restart; R193 says of the field loop's pins only
that FDE is released. -/
opaque restartFieldTransmit : Bool

end Sys2Proof.Config
end

