-- ==== Sys2Proof/Syntax.lean ====
section
/-! DEFINITION. The commands of the block: one constructor of `Instr` per row of spec/opcode_table.json. A row that is a
station command is that command reaching the port of the station that issues it, as a whole good frame with a tag; the
other rows are the port, pin, timer, field loop and restart steps. `Command` is the content of a station command frame,
which is also what a port's command buffer holds while the command waits. -/

namespace Sys2Proof

/-- The three stations, fixed by their ports: A supervisor, B lane, C guidance (section 9.1). -/
inductive Station
  | supervisor
  | lane
  | guidance
deriving DecidableEq, Repr

/-- The two loops of a ramp pair: A on the upper side, B on the lower (chapter 2). -/
inductive LoopSide
  | a
  | b
deriving DecidableEq, Repr

/-- One character received on the field loop: its data byte, its marker bit, and whether its stop bit was at mark (R161). -/
structure FieldChar where
  data   : Byte
  marker : Bool
  stopOk : Bool
deriving DecidableEq, Repr

/-- One slot of SET_TRAFFIC_TABLE as it is carried: presence byte, bounds and demand (R116). -/
structure SlotOperand where
  presence : Nat
  lower    : Nat
  upper    : Nat
  demand   : Nat
deriving DecidableEq, Repr

/-- The thresholds and the demand of one stage, as SET_STAGE_TABLE carries them (R110). -/
structure StageRow where
  coMean  : Nat
  coInst  : Nat
  no2Inst : Nat
  demand  : Nat
deriving DecidableEq, Repr

/-- The content of a station command frame: the commands of the code table of section 9.2 with their operands, in the
order their command blocks name them. DEFINE carries its record's fields raw, each as the value in its width. -/
inductive Command
  | readStatus
  | readEvents (count : Nat)
  | setEventMask (mask : Nat)
  | readRecord (kind number part : Nat)
  | readQueue (page : Nat)
  | readHolds (page : Nat)
  | readLoads (page : Nat)
  | enterConfig
  | commit
  | storeProfile
  | restart (operand : Nat)
  | define (kind number : Nat) (fields : List Nat)
  | delete (kind number : Nat)
  | setPollList (position : Nat) (entries : List Nat)
  | setClassTable (entries : List Nat)
  | setPenalty (penalties : List Nat)
  | setAllowance (normal shed : Nat)
  | setStageTable (stages : List StageRow) (hysteresis dwell : Nat)
  | setTrafficTable (level : Nat) (slots : List SlotOperand)
  | ventOverride (zone demand duration : Nat)
  | setFlowPattern (zone pattern : Nat)
  | clearFan (channel : Nat)
  | isolateFan (channel : Nat)
  | restoreFan (channel : Nat)
  | manualFan (channel speed : Nat)
  | census (level : Nat)
  | setLightLevels (row base active hold fade : Nat)
  | setGuidanceTimes (maxWait holdTime substitution : Nat)
  | requestBay (cls lane priority : Nat)
  | withdraw (ticket : Nat)
  | withdrawNewest
  | cancelHold (ticket : Nat)
  | queueCount
  | claimBay (bay expected : Nat)
  | releaseClaim (bay : Nat)
  | closeBay (bay : Nat)
  | openBay (bay : Nat)
deriving DecidableEq, Repr

/-- An entry of a command buffer: a command entry, a command entry whose code is in no table, one whose payload is not of
the length its code calls for, or a bad-frame entry (R173, R176). -/
inductive Entry
  | command (tag : Nat) (c : Command)
  | unknown (tag code : Nat)
  | misfit (tag code : Nat)
  | badFrame (tag : Nat)
deriving DecidableEq, Repr

/-- The steps of the part, one constructor per row of the table. The first forty are station commands and the two
answers to frames that name no command; each carries the calling station and the tag of its frame. -/
inductive Instr
  | readStatus (st : Station) (tag : Nat)
  | readEvents (st : Station) (tag : Nat) (count : Nat)
  | setEventMask (st : Station) (tag : Nat) (mask : Nat)
  | readRecord (st : Station) (tag : Nat) (kind number part : Nat)
  | readQueue (st : Station) (tag : Nat) (page : Nat)
  | readHolds (st : Station) (tag : Nat) (page : Nat)
  | readLoads (st : Station) (tag : Nat) (page : Nat)
  | enterConfig (st : Station) (tag : Nat)
  | commit (st : Station) (tag : Nat)
  | storeProfile (st : Station) (tag : Nat)
  | restartHard (st : Station) (tag : Nat)
  | restartSoft (st : Station) (tag : Nat)
  | define (st : Station) (tag : Nat) (kind number : Nat) (fields : List Nat)
  | delete (st : Station) (tag : Nat) (kind number : Nat)
  | setPollList (st : Station) (tag : Nat) (position : Nat) (entries : List Nat)
  | setClassTable (st : Station) (tag : Nat) (entries : List Nat)
  | setPenalty (st : Station) (tag : Nat) (penalties : List Nat)
  | setAllowance (st : Station) (tag : Nat) (normal shed : Nat)
  | setStageTable (st : Station) (tag : Nat) (stages : List StageRow) (hysteresis dwell : Nat)
  | setTrafficTable (st : Station) (tag : Nat) (level : Nat) (slots : List SlotOperand)
  | ventOverride (st : Station) (tag : Nat) (zone demand duration : Nat)
  | setFlowPattern (st : Station) (tag : Nat) (zone pattern : Nat)
  | clearFan (st : Station) (tag : Nat) (channel : Nat)
  | isolateFan (st : Station) (tag : Nat) (channel : Nat)
  | restoreFan (st : Station) (tag : Nat) (channel : Nat)
  | manualFan (st : Station) (tag : Nat) (channel speed : Nat)
  | census (st : Station) (tag : Nat) (level : Nat)
  | setLightLevels (st : Station) (tag : Nat) (row base active hold fade : Nat)
  | setGuidanceTimes (st : Station) (tag : Nat) (maxWait holdTime substitution : Nat)
  | requestBay (st : Station) (tag : Nat) (cls lane priority : Nat)
  | withdraw (st : Station) (tag : Nat) (ticket : Nat)
  | withdrawNewest (st : Station) (tag : Nat)
  | cancelHold (st : Station) (tag : Nat) (ticket : Nat)
  | queueCount (st : Station) (tag : Nat)
  | claimBay (st : Station) (tag : Nat) (bay expected : Nat)
  | releaseClaim (st : Station) (tag : Nat) (bay : Nat)
  | closeBay (st : Station) (tag : Nat) (bay : Nat)
  | openBay (st : Station) (tag : Nat) (bay : Nat)
  | unknownCommand (st : Station) (tag : Nat) (code : Nat)
  | badFrameEntry (st : Station) (tag : Nat)
  -- the station port pins
  | selFall (st : Station)
  | commandFrameReceived (st : Station) (bytes : List Byte)
  | responseFrameReadOut (st : Station)
  | selRise (st : Station) (shiftedIn : List Byte)
  -- the ramps and the census
  | rampInputChange (pair : Fin 16) (side : LoopSide) (high : Bool)
  | settleTimerExpiry (pair : Nat)
  | censusMinuteTimerExpiry
  | censusStartTimerExpiry
  | driftTimerExpiry (level : Nat)
  -- the field loop
  | fieldRequestSent
  | fieldReplyReceived (chars : List FieldChar)
  | replyTimerExpiry
  | drainEnd
  -- allocation, rows, air, fans and supply
  | waitTimerExpiry (ticket : Nat)
  | holdExpiry (ticket : Nat)
  | lightTimerExpiry (row : Nat)
  | riseTimerExpiry (row : Nat)
  | fadeTimerExpiry (row : Nat)
  | airMinuteTimerExpiry
  | dwellTimerExpiry (zone : Nat)
  | overrideTimerExpiry (zone : Nat)
  | accelerationTimerExpiry (channel : Nat)
  | decelerationTimerExpiry (channel : Nat)
  | reverseDwellExpiry (channel : Nat)
  | fanFaultInputAsserted (channel : Fin 24)
  | fanFaultInputReleased (channel : Fin 24)
  | shedChange (asserted : Bool)
  -- the profile store, restarts and deck time
  | profileWriteCompletion (crcGood : Bool)
  | profileWriteTimerExpiry
  | powerOn (strapHigh : Bool)
  | resetNAsserted
  | resetNReleased
  | deckTimeTick
  | fieldReplyCharacterReceived (char : FieldChar)
deriving DecidableEq, Repr

end Sys2Proof
end

