-- ==== Sys2Proof/WellFormed.lean ====
section
/-! DEFINITION. Which commands can be sent: every operand fits the width its frame gives it, lists have the length their
frame carries, and the two rows for frames that name no command are what they say. Range checks that the part answers with
a status (BAD_ARGUMENT and the rest) are not here: they are the part's own behaviour. -/

namespace Sys2Proof

/-- The code of a command (section 9.2). -/
def Command.code : Command → Nat
  | .readStatus => 0x01
  | .readEvents _ => 0x02
  | .setEventMask _ => 0x03
  | .readRecord _ _ _ => 0x04
  | .readQueue _ => 0x05
  | .readHolds _ => 0x06
  | .readLoads _ => 0x07
  | .enterConfig => 0x10
  | .commit => 0x11
  | .storeProfile => 0x12
  | .restart _ => 0x13
  | .define _ _ _ => 0x14
  | .delete _ _ => 0x15
  | .setPollList _ _ => 0x16
  | .setClassTable _ => 0x17
  | .setPenalty _ => 0x18
  | .setAllowance _ _ => 0x20
  | .setStageTable _ _ _ => 0x21
  | .setTrafficTable _ _ => 0x22
  | .ventOverride _ _ _ => 0x23
  | .setFlowPattern _ _ => 0x24
  | .clearFan _ => 0x25
  | .isolateFan _ => 0x26
  | .restoreFan _ => 0x27
  | .manualFan _ _ => 0x28
  | .census _ => 0x29
  | .setLightLevels _ _ _ _ _ => 0x2A
  | .setGuidanceTimes _ _ _ => 0x2B
  | .requestBay _ _ _ => 0x30
  | .withdraw _ => 0x31
  | .withdrawNewest => 0x32
  | .cancelHold _ => 0x33
  | .queueCount => 0x34
  | .claimBay _ _ => 0x38
  | .releaseClaim _ => 0x39
  | .closeBay _ => 0x3A
  | .openBay _ => 0x3B

/-- The codes of the command table (section 9.2). -/
def inCommandTable (code : Nat) : Bool :=
  (decide (1 ≤ code) && decide (code ≤ 7)) || (decide (0x10 ≤ code) && decide (code ≤ 0x18)) ||
  (decide (0x20 ≤ code) && decide (code ≤ 0x2B)) || (decide (0x30 ≤ code) && decide (code ≤ 0x34)) ||
  (decide (0x38 ≤ code) && decide (code ≤ 0x3B))

/-- The widths in bytes of the fields DEFINE carries for a kind of record, in table order: each configuration field's
"Read as" width, without the record's number, a head's address and a level's traffic table (R188). -/
def fieldWidths : Nat → Option (List Nat)
  | 0 => some [2, 2, 2, 2, 2, 2, 2, 2, 2, 2, 2]
  | 2 => some [2, 2]
  | 3 => some [2, 2, 2, 2, 2]
  | 4 => some [2, 2, 2, 2, 2, 2, 2, 2]
  | 5 => some [2, 2, 2, 2, 2]
  | 6 => some [2, 2]
  | 9 => some [2, 4, 2, 2, 2, 2, 2, 2, 2, 2, 2]
  | 12 => some [2]
  | _ => none

/-- Whether the payload of a command is of the length its operands call for (R176 check 4). -/
def Command.lengthFits : Command → Bool
  | .define kind _ fields =>
    match fieldWidths kind with
    | some ws => decide (fields.length = ws.length)
    | none => true
  | .setClassTable entries => decide (entries.length = 16)
  | .setPenalty penalties => decide (penalties.length = 4)
  | .setStageTable stages _ _ => decide (stages.length = 4)
  | .setTrafficTable _ slots => decide (slots.length = 8)
  | _ => true

/-- A value that fits in one, two or four bytes. -/
def fits8 (n : Nat) : Bool := decide (n < 256)
def fits16 (n : Nat) : Bool := decide (n < 65536)
def fits32 (n : Nat) : Bool := decide (n < 4294967296)

/-- Values each of which fits its width in bytes. -/
def fitFields : List Nat → List Nat → Bool
  | w :: ws, v :: vs => decide (v < 256 ^ w) && fitFields ws vs
  | _, _ => true

/-- Whether the operands of a command fit the frame that carries them (R176, section 9.8). -/
def Command.wellFormed (c : Command) : Bool :=
  c.lengthFits &&
  match c with
  | .readStatus => true
  | .readEvents count => fits8 count
  | .setEventMask mask => fits32 mask
  | .readRecord kind number part => fits8 kind && fits16 number && fits8 part
  | .readQueue page => fits8 page
  | .readHolds page => fits8 page
  | .readLoads page => fits8 page
  | .enterConfig => true
  | .commit => true
  | .storeProfile => true
  | .restart operand => fits8 operand
  | .define kind number fields =>
    fits8 kind && fits16 number &&
    match fieldWidths kind with
    | some ws => fitFields ws fields
    | none => fields.all fits8 && decide (fields.length ≤ 152)
  | .delete kind number => fits8 kind && fits16 number
  | .setPollList position entries => fits16 position && entries.all fits8 && decide (entries.length ≤ 153)
  | .setClassTable entries => entries.all fits8
  | .setPenalty penalties => penalties.all fits16
  | .setAllowance normal shed => fits32 normal && fits32 shed
  | .setStageTable stages hysteresis dwell =>
    (stages.all fun r => fits16 r.coMean && fits16 r.coInst && fits16 r.no2Inst && fits8 r.demand) &&
    fits8 hysteresis && fits16 dwell
  | .setTrafficTable level slots =>
    fits8 level && slots.all fun x => fits8 x.presence && fits16 x.lower && fits16 x.upper && fits8 x.demand
  | .ventOverride zone demand duration => fits8 zone && fits8 demand && fits16 duration
  | .setFlowPattern zone pattern => fits8 zone && fits8 pattern
  | .clearFan channel => fits8 channel
  | .isolateFan channel => fits8 channel
  | .restoreFan channel => fits8 channel
  | .manualFan channel speed => fits8 channel && fits8 speed
  | .census level => fits8 level
  | .setLightLevels row base active hold fade =>
    fits8 row && fits8 base && fits8 active && fits16 hold && fits8 fade
  | .setGuidanceTimes maxWait holdTime substitution => fits16 maxWait && fits16 holdTime && fits8 substitution
  | .requestBay cls lane priority => fits8 cls && fits8 lane && fits8 priority
  | .withdraw ticket => fits16 ticket
  | .withdrawNewest => true
  | .cancelHold ticket => fits16 ticket
  | .queueCount => true
  | .claimBay bay expected => fits16 bay && fits8 expected
  | .releaseClaim bay => fits16 bay
  | .closeBay bay => fits16 bay
  | .openBay bay => fits16 bay

/-- The command entry a station command row stands for; none for the other rows. -/
def Instr.entry : Instr → Option (Station × Entry)
  | .readStatus st tag => some (st, .command tag .readStatus)
  | .readEvents st tag count => some (st, .command tag (.readEvents count))
  | .setEventMask st tag mask => some (st, .command tag (.setEventMask mask))
  | .readRecord st tag kind number part => some (st, .command tag (.readRecord kind number part))
  | .readQueue st tag page => some (st, .command tag (.readQueue page))
  | .readHolds st tag page => some (st, .command tag (.readHolds page))
  | .readLoads st tag page => some (st, .command tag (.readLoads page))
  | .enterConfig st tag => some (st, .command tag .enterConfig)
  | .commit st tag => some (st, .command tag .commit)
  | .storeProfile st tag => some (st, .command tag .storeProfile)
  | .restartHard st tag => some (st, .command tag (.restart 0))
  | .restartSoft st tag => some (st, .command tag (.restart 1))
  | .define st tag kind number fields => some (st, .command tag (.define kind number fields))
  | .delete st tag kind number => some (st, .command tag (.delete kind number))
  | .setPollList st tag position entries => some (st, .command tag (.setPollList position entries))
  | .setClassTable st tag entries => some (st, .command tag (.setClassTable entries))
  | .setPenalty st tag penalties => some (st, .command tag (.setPenalty penalties))
  | .setAllowance st tag normal shed => some (st, .command tag (.setAllowance normal shed))
  | .setStageTable st tag stages hysteresis dwell => some (st, .command tag (.setStageTable stages hysteresis dwell))
  | .setTrafficTable st tag level slots => some (st, .command tag (.setTrafficTable level slots))
  | .ventOverride st tag zone demand duration => some (st, .command tag (.ventOverride zone demand duration))
  | .setFlowPattern st tag zone pattern => some (st, .command tag (.setFlowPattern zone pattern))
  | .clearFan st tag channel => some (st, .command tag (.clearFan channel))
  | .isolateFan st tag channel => some (st, .command tag (.isolateFan channel))
  | .restoreFan st tag channel => some (st, .command tag (.restoreFan channel))
  | .manualFan st tag channel speed => some (st, .command tag (.manualFan channel speed))
  | .census st tag level => some (st, .command tag (.census level))
  | .setLightLevels st tag row base active hold fade =>
    some (st, .command tag (.setLightLevels row base active hold fade))
  | .setGuidanceTimes st tag maxWait holdTime substitution =>
    some (st, .command tag (.setGuidanceTimes maxWait holdTime substitution))
  | .requestBay st tag cls lane priority => some (st, .command tag (.requestBay cls lane priority))
  | .withdraw st tag ticket => some (st, .command tag (.withdraw ticket))
  | .withdrawNewest st tag => some (st, .command tag .withdrawNewest)
  | .cancelHold st tag ticket => some (st, .command tag (.cancelHold ticket))
  | .queueCount st tag => some (st, .command tag .queueCount)
  | .claimBay st tag bay expected => some (st, .command tag (.claimBay bay expected))
  | .releaseClaim st tag bay => some (st, .command tag (.releaseClaim bay))
  | .closeBay st tag bay => some (st, .command tag (.closeBay bay))
  | .openBay st tag bay => some (st, .command tag (.openBay bay))
  | .unknownCommand st tag code => some (st, .unknown tag code)
  | .badFrameEntry st tag => some (st, .badFrame tag)
  | _ => none

/-- Whether an entry is one that a frame can make: a tag of one byte, and a command that fits its frame. -/
def Entry.wellFormed : Entry → Bool
  | .command tag c => fits8 tag && c.wellFormed
  | .unknown tag code => fits8 tag && fits8 code && !inCommandTable code
  | .misfit tag code => fits8 tag && inCommandTable code
  | .badFrame tag => fits8 tag

/-- Whether a command of the table can be sent: a station command row fits its frame, and numbered timers, loops and
channels are within their ranges. -/
def Instr.wellFormed (i : Instr) : Bool :=
  match i.entry with
  | some (_, e) => e.wellFormed
  | none =>
    match i with
    | .settleTimerExpiry pair => decide (pair < 16)
    | .driftTimerExpiry level => decide (level < 8)
    | .waitTimerExpiry ticket => decide (1 ≤ ticket) && fits16 ticket
    | .holdExpiry ticket => decide (1 ≤ ticket) && fits16 ticket
    | .lightTimerExpiry row => decide (row < 64)
    | .riseTimerExpiry row => decide (row < 64)
    | .fadeTimerExpiry row => decide (row < 64)
    | .dwellTimerExpiry zone => decide (zone < 12)
    | .overrideTimerExpiry zone => decide (zone < 12)
    | .accelerationTimerExpiry channel => decide (channel < 24)
    | .decelerationTimerExpiry channel => decide (channel < 24)
    | .reverseDwellExpiry channel => decide (channel < 24)
    | _ => true

end Sys2Proof
end

