-- ==== Sys2Proof/Decode.lean ====
section
/-! DEFINITION. The frames of the station ports (sections 9.1, 9.2 and 9.8): little-endian values, the CRC-16, the operand
layout of every command, decoding of received bytes into a command buffer entry, and encoding. The table of operations gives
no row any bits, so `decodeTableWord` reads none. -/

namespace Sys2Proof

/-! ### Values and check code -/

/-- A value of `w` bytes, least significant first (Conventions, "Byte order"). -/
def leBytes : Nat → Nat → List Byte
  | 0, _ => []
  | w + 1, n => BitVec.ofNat 8 n :: leBytes w (n / 256)

/-- The value of bytes given least significant first. -/
def leNat : List Byte → Nat
  | [] => 0
  | b :: rest => b.toNat + 256 * leNat rest

/-- One bit of the CRC register: polynomial 0x1021, no reflection. -/
def crcShift (r : Check) : Check := if r.msb then (r <<< 1) ^^^ 0x1021#16 else r <<< 1

/-- The CRC register after a byte. -/
def crcByte (r : Check) (b : Byte) : Check :=
  crcShift (crcShift (crcShift (crcShift (crcShift (crcShift (crcShift (crcShift (r ^^^ (b.setWidth 16 <<< 8)))))))))

/-- The CRC-16 of a frame's bytes: initial value 0xFFFF, no final inversion (Conventions). -/
def crc16 (bytes : List Byte) : Check := bytes.foldl crcByte 0xFFFF#16

/-- The CRC as it is sent: high byte first. -/
def crcBytes (c : Check) : List Byte := [(c >>> 8).setWidth 8, c.setWidth 8]

/-- A frame's bytes with their CRC appended. -/
def withCrc (bytes : List Byte) : List Byte := bytes ++ crcBytes (crc16 bytes)

/-- Whether the last two bytes are the CRC of the bytes before them. -/
def crcGood (frame : List Byte) : Bool :=
  decide (frame.drop (frame.length - 2) = crcBytes (crc16 (frame.take (frame.length - 2))))

/-! ### Operand layout -/

/-- The operands of a command, laid end to end in the order of its command block. -/
def Command.operands : Command → List Nat
  | .readStatus => []
  | .readEvents count => [count]
  | .setEventMask mask => [mask]
  | .readRecord kind number part => [kind, number, part]
  | .readQueue page => [page]
  | .readHolds page => [page]
  | .readLoads page => [page]
  | .enterConfig => []
  | .commit => []
  | .storeProfile => []
  | .restart operand => [operand]
  | .define kind number fields => kind :: number :: fields
  | .delete kind number => [kind, number]
  | .setPollList position entries => position :: entries
  | .setClassTable entries => entries
  | .setPenalty penalties => penalties
  | .setAllowance normal shed => [normal, shed]
  | .setStageTable stages hysteresis dwell =>
    stages.flatMap (fun r => [r.coMean, r.coInst, r.no2Inst, r.demand]) ++ [hysteresis, dwell]
  | .setTrafficTable level slots => level :: slots.flatMap fun x => [x.presence, x.lower, x.upper, x.demand]
  | .ventOverride zone demand duration => [zone, demand, duration]
  | .setFlowPattern zone pattern => [zone, pattern]
  | .clearFan channel => [channel]
  | .isolateFan channel => [channel]
  | .restoreFan channel => [channel]
  | .manualFan channel speed => [channel, speed]
  | .census level => [level]
  | .setLightLevels row base active hold fade => [row, base, active, hold, fade]
  | .setGuidanceTimes maxWait holdTime substitution => [maxWait, holdTime, substitution]
  | .requestBay cls lane priority => [cls, lane, priority]
  | .withdraw ticket => [ticket]
  | .withdrawNewest => []
  | .cancelHold ticket => [ticket]
  | .queueCount => []
  | .claimBay bay expected => [bay, expected]
  | .releaseClaim bay => [bay]
  | .closeBay bay => [bay]
  | .openBay bay => [bay]

/-- The widths, in bytes, of the operands of a command code whose payload is `payload` bytes long and begins with the
byte `first` (the kind of a DEFINE): a stated width, else one, two or four bytes by the range (R176). -/
def operandWidths (code payload first : Nat) : List Nat :=
  match code with
  | 0x02 => [1]
  | 0x03 => [4]
  | 0x04 => [1, 2, 1]
  | 0x05 => [1]
  | 0x06 => [1]
  | 0x07 => [1]
  | 0x13 => [1]
  | 0x14 =>
    match fieldWidths first with
    | some ws => 1 :: 2 :: ws
    | none => 1 :: 2 :: List.replicate (payload - 3) 1
  | 0x15 => [1, 2]
  | 0x16 => 2 :: List.replicate (payload - 2) 1
  | 0x17 => List.replicate 16 1
  | 0x18 => [2, 2, 2, 2]
  | 0x20 => [4, 4]
  | 0x21 => [2, 2, 2, 1, 2, 2, 2, 1, 2, 2, 2, 1, 2, 2, 2, 1, 1, 2]
  | 0x22 =>
    1 :: [1, 2, 2, 1, 1, 2, 2, 1, 1, 2, 2, 1, 1, 2, 2, 1, 1, 2, 2, 1, 1, 2, 2, 1, 1, 2, 2, 1, 1, 2, 2, 1]
  | 0x23 => [1, 1, 2]
  | 0x24 => [1, 1]
  | 0x25 => [1]
  | 0x26 => [1]
  | 0x27 => [1]
  | 0x28 => [1, 1]
  | 0x29 => [1]
  | 0x2A => [1, 1, 1, 2, 1]
  | 0x2B => [2, 2, 1]
  | 0x30 => [1, 1, 1]
  | 0x31 => [2]
  | 0x33 => [2]
  | 0x38 => [2, 1]
  | 0x39 => [2]
  | 0x3A => [2]
  | 0x3B => [2]
  | _ => []

/-- The stage rows carried by the first sixteen operands of SET_STAGE_TABLE. -/
def stageRowsOf : List Nat → List StageRow
  | a :: b :: c :: d :: rest => ⟨a, b, c, d⟩ :: stageRowsOf rest
  | _ => []

/-- The slots carried by the operands of SET_TRAFFIC_TABLE after its level. -/
def slotsOf : List Nat → List SlotOperand
  | a :: b :: c :: d :: rest => ⟨a, b, c, d⟩ :: slotsOf rest
  | _ => []

/-- The command of a code with its operands. -/
def Command.ofOperands : Nat → List Nat → Option Command
  | 0x01, [] => some .readStatus
  | 0x02, [count] => some (.readEvents count)
  | 0x03, [mask] => some (.setEventMask mask)
  | 0x04, [kind, number, part] => some (.readRecord kind number part)
  | 0x05, [page] => some (.readQueue page)
  | 0x06, [page] => some (.readHolds page)
  | 0x07, [page] => some (.readLoads page)
  | 0x10, [] => some .enterConfig
  | 0x11, [] => some .commit
  | 0x12, [] => some .storeProfile
  | 0x13, [operand] => some (.restart operand)
  | 0x14, kind :: number :: fields => some (.define kind number fields)
  | 0x15, [kind, number] => some (.delete kind number)
  | 0x16, position :: entries => some (.setPollList position entries)
  | 0x17, entries => some (.setClassTable entries)
  | 0x18, penalties => some (.setPenalty penalties)
  | 0x20, [normal, shed] => some (.setAllowance normal shed)
  | 0x21, vs => some (.setStageTable (stageRowsOf (vs.take 16)) (vs.getD 16 0) (vs.getD 17 0))
  | 0x22, level :: vs => some (.setTrafficTable level (slotsOf vs))
  | 0x23, [zone, demand, duration] => some (.ventOverride zone demand duration)
  | 0x24, [zone, pattern] => some (.setFlowPattern zone pattern)
  | 0x25, [channel] => some (.clearFan channel)
  | 0x26, [channel] => some (.isolateFan channel)
  | 0x27, [channel] => some (.restoreFan channel)
  | 0x28, [channel, speed] => some (.manualFan channel speed)
  | 0x29, [level] => some (.census level)
  | 0x2A, [row, base, active, hold, fade] => some (.setLightLevels row base active hold fade)
  | 0x2B, [maxWait, holdTime, substitution] => some (.setGuidanceTimes maxWait holdTime substitution)
  | 0x30, [cls, lane, priority] => some (.requestBay cls lane priority)
  | 0x31, [ticket] => some (.withdraw ticket)
  | 0x32, [] => some .withdrawNewest
  | 0x33, [ticket] => some (.cancelHold ticket)
  | 0x34, [] => some .queueCount
  | 0x38, [bay, expected] => some (.claimBay bay expected)
  | 0x39, [bay] => some (.releaseClaim bay)
  | 0x3A, [bay] => some (.closeBay bay)
  | 0x3B, [bay] => some (.openBay bay)
  | _, _ => none

/-- The operand values carried by a payload laid out in these widths; none when its length is another. -/
def splitFields : List Nat → List Byte → Option (List Nat)
  | [], [] => some []
  | [], _ :: _ => none
  | w :: ws, bs =>
    if bs.length < w then none else (splitFields ws (bs.drop w)).map fun vs => leNat (bs.take w) :: vs

/-- Operand values laid out in these widths. -/
def joinFields : List Nat → List Nat → List Byte
  | w :: ws, v :: vs => leBytes w v ++ joinFields ws vs
  | _, _ => []

/-! ### Decoding -/

/-- The entry of a good frame with this tag, code and payload (R176: the code is looked up before the payload's length). -/
def decodeEntry (tag code : Nat) (payload : List Byte) : Entry :=
  if inCommandTable code then
    match splitFields (operandWidths code payload.length (leNat (payload.take 1))) payload with
    | none => .misfit tag code
    | some vs =>
      match Command.ofOperands code vs with
      | some c => .command tag c
      | none => .misfit tag code
  else .unknown tag code

/-- The entry that bytes shifted in from the first byte of a transaction make, when they complete a frame (R173): a length
of 5 to 160 is awaited in full and its CRC checked; another length other than 0 is a bad frame with the second byte as its
tag. Bytes after the end of the frame are ignored. -/
def decodeFrame : List Byte → Option Entry
  | [] => none
  | len :: rest =>
    if len.toNat = 0 then none
    else if len.toNat < 5 ∨ 160 < len.toNat then
      match rest with
      | [] => none
      | tag :: _ => some (.badFrame tag.toNat)
    else if rest.length + 1 < len.toNat then none
    else
      let frame := (len :: rest).take len.toNat
      let tag := (frame.getD 1 0#8).toNat
      let code := (frame.getD 2 0#8).toNat
      if crcGood frame then some (decodeEntry tag code ((frame.drop 3).take (len.toNat - 5)))
      else some (.badFrame tag)

/-- The entry a transaction that ends with these bytes shifted in leaves at SEL's rise: a bad length with no second byte
makes a bad-frame entry with tag 0; a frame cut short makes none (R173). -/
def entryAtRise : List Byte → Option Entry
  | [len] => if len.toNat ≠ 0 ∧ (len.toNat < 5 ∨ 160 < len.toNat) then some (.badFrame 0) else none
  | _ => none

/-! ### Encoding -/

/-- The payload of a command. -/
def Command.payload (c : Command) : List Byte :=
  let vs := c.operands
  let bytes := match c with
    | .setPollList _ entries => 2 + entries.length
    | .define _ _ fields => 3 + fields.length
    | _ => 0
  joinFields (operandWidths c.code bytes (vs.headD 0)) vs

/-- The command frame of a command with a tag (section 9.8). -/
def encodeFrame (tag : Nat) (c : Command) : List Byte :=
  withCrc (BitVec.ofNat 8 (c.payload.length + 5) :: BitVec.ofNat 8 tag :: BitVec.ofNat 8 c.code :: c.payload)

/-- The command a table word spells: none, since no row of the table gives bits. -/
def decodeTableWord (_nbits _w : Nat) : Option Instr := none

end Sys2Proof
end

