-- ==== Sys2Proof/Machine/State.lean ====
section
/-! DEFINITION. The state of the DK8 as plain data, block by block, and the state right after a power-on with an empty
profile store. What the manual gives as a count kept in step with other state (free and offered counts, S, T, demands,
draws, path-hold counts, the held-rise list) is computed from the one place that holds it: see Machine/Ops.lean. -/

namespace Sys2Proof.Machine

/-- Records by number, numbers strictly rising. -/
abbrev Table (α : Type) := List (Nat × α)

/-! ### Bays and detector classification (chapter 1) -/

/-- What the detector says about a bay (R7). -/
inductive Sensed
  | vacant
  | present
  | unknown
deriving DecidableEq, Repr

/-- What the allocation unit allows for a bay (section 3.1), with the ticket or the claiming station while there is one (R46). -/
inductive Admin
  | opened
  | held (ticket : Nat)
  | claimed (station : Station)
  | closed
deriving DecidableEq, Repr

/-- The configuration fields of a bay (first table of section 1.1). -/
structure BayCfg where
  row     : Nat
  cls     : Nat
  node    : Nat
  channel : Nat
  cost    : Nat
  onThr   : Nat
  offThr  : Nat
  ref0    : Option Nat
  ref1    : Option Nat
  ref2    : Option Nat
  ref3    : Option Nat
deriving DecidableEq, Repr

/-- A bay in force: its configuration and its runtime fields (second table of section 1.1). -/
structure Bay where
  cfg           : BayCfg
  sensed        : Sensed
  admin         : Admin
  learning      : Bool
  learnProgress : Nat
  learnSum      : Nat
  baseline      : Nat
  lastCount     : Option Nat
  onRun         : Nat
  offRun        : Nat
  /-- the noise window, oldest first, each entry jumpy or not (R12) -/
  window        : List Bool
  invalidRun    : Nat
  changedAt     : Option Time
deriving DecidableEq, Repr

/-- The band record of a bay node address: current band and the times of the latest counted changes, oldest first. -/
structure BandRecord where
  band    : Nat
  changes : List Time
deriving DecidableEq, Repr

/-! ### Ramp pairs and levels (chapter 2) -/

/-- The upper side of a ramp pair. -/
inductive Side
  | street
  | level (n : Nat)
deriving DecidableEq, Repr

/-- The configuration fields of a ramp pair (section 2.1). -/
structure PairCfg where
  upper : Side
  lower : Nat
deriving DecidableEq, Repr

/-- A ramp pair in force: filter and decoder. The settle timer is held as the deck time it expires at. -/
structure RampPair where
  cfg       : PairCfg
  filteredA : Bool
  filteredB : Bool
  position  : Int
  spoiled   : Bool
  settle    : Option Time
deriving DecidableEq, Repr

/-- One range of a traffic range table (section 5.7); demand 255 is "none". -/
structure TrafficRange where
  lower  : Nat
  upper  : Nat
  demand : Nat
deriving DecidableEq, Repr

/-- The configuration fields of a level (section 2.2), with its traffic range table of eight slots. -/
structure LevelCfg where
  driftLimit : Nat
  driftTime  : Nat
  weight     : Nat
  sign1      : Option Nat
  sign2      : Option Nat
  traffic    : List (Option TrafficRange)
deriving DecidableEq, Repr

/-- The drift state of a level; while TIMING, the deck time the drift timer was started at (R42, R45). -/
inductive Drift
  | idle
  | timing (started : Time)
  | reported
deriving DecidableEq, Repr

/-- A level in force. -/
structure Level where
  cfg     : LevelCfg
  count   : Nat
  /-- the five one-minute buckets, oldest first (R36) -/
  ring    : List Nat
  pending : Bool
  drift   : Drift
deriving DecidableEq, Repr

/-! ### Rows (chapter 4) -/

/-- The parent of a row: the next row toward the ramp, or a ramp pair. -/
inductive Parent
  | row (n : Nat)
  | pair (n : Nat)
deriving DecidableEq, Repr

/-- The configuration fields of a row (section 4.1). -/
structure RowCfg where
  level    : Nat
  zone     : Nat
  parent   : Parent
  node     : Nat
  rated    : Nat
  base     : Nat
  active   : Nat
  holdTime : Nat
deriving DecidableEq, Repr

/-- The step state of a row (section 4.4), with the deck time its step timer expires at while one runs. -/
inductive RowStep
  | still
  | rising (expires : Time)
  | riseHeld
  | fading (expires : Time)
  | frozen
deriving DecidableEq, Repr

/-- A row in force. -/
structure Row where
  cfg        : RowCfg
  requested  : Nat
  lightTimer : Option Time
  granted    : Nat
  commanded  : Nat
  step       : RowStep
deriving DecidableEq, Repr

/-! ### Air quality (chapter 5) -/

/-- The configuration fields of a gas head (section 5.1). -/
structure HeadCfg where
  zone      : Nat
  coOffset  : Nat
  coGain    : Nat
  no2Offset : Nat
  no2Gain   : Nat
deriving DecidableEq, Repr

/-- The health of a head (section 5.2). -/
inductive HeadHealth
  | none
  | warmup
  | valid
  | stale
  | fault
deriving DecidableEq, Repr

/-- The flags of a POLL_GAS reply. -/
structure GasFlags where
  satCo       : Bool
  satNo2      : Bool
  warmup      : Bool
  sensorFault : Bool
deriving DecidableEq, Repr

/-- Raw readings and flags of the last reply. -/
structure RawReading where
  co    : Nat
  no2   : Nat
  flags : GasFlags
deriving DecidableEq, Repr

/-- Converted values and time of the last reply that made the head VALID. -/
structure HeadValues where
  co   : Nat
  no2  : Nat
  time : Time
deriving DecidableEq, Repr

/-- A gas head in force. -/
structure Head where
  cfg    : HeadCfg
  health : HeadHealth
  raw    : Option RawReading
  values : Option HeadValues
deriving DecidableEq, Repr

/-- The configuration fields of a zone (section 5.3). -/
structure ZoneCfg where
  level          : Nat
  failsafeDemand : Nat
deriving DecidableEq, Repr

/-- The flow pattern of a zone (section 6.7). -/
inductive Pattern
  | a
  | b
deriving DecidableEq, Repr

/-- An active override: its demand and the deck time its timer expires at (R113). -/
structure Override where
  demand  : Nat
  expires : Time
deriving DecidableEq, Repr

/-- A zone in force. -/
structure Zone where
  cfg      : ZoneCfg
  stage    : Nat
  failsafe : Bool
  coInst   : Nat
  no2Inst  : Nat
  coSum    : Nat
  no2Sum   : Nat
  samples  : Nat
  coRing   : List Nat
  no2Ring  : List Nat
  dwell    : Option Time
  override : Option Override
  pattern  : Pattern
deriving DecidableEq, Repr

/-- The stage table in force, with the hysteresis and the dwell time in seconds (R110). -/
structure StageTable where
  stages     : List StageRow
  hysteresis : Nat
  dwell      : Nat
deriving DecidableEq, Repr

/-! ### Fans (chapter 6) -/

/-- A direction of a fan. -/
inductive Direction
  | forward
  | reverse
deriving DecidableEq, Repr

/-- The configuration fields of a fan (section 6.1); the intervals are in tenths of a second. -/
structure FanCfg where
  zone       : Nat
  rated      : Nat
  minRun     : Nat
  start      : Nat
  maxSpeed   : Nat
  accel      : Nat
  decel      : Nat
  reversible : Bool
  dirA       : Direction
  dirB       : Direction
  dwell      : Nat
deriving DecidableEq, Repr

/-- The states of a fan (section 6.4). -/
inductive FanState
  | stopped
  | accelerating
  | steady
  | decelerating
  | reversingDown
  | reverseDwell
  | faulted
  | isolated
  | held
deriving DecidableEq, Repr

/-- A fan in force. `timer` is the expiry of its one running step timer. -/
structure Fan where
  cfg       : FanCfg
  state     : FanState
  commanded : Nat
  granted   : Nat
  request   : Nat
  floor     : Nat
  cls       : Nat
  direction : Direction
  rampHeld  : Bool
  timer     : Option Time
deriving DecidableEq, Repr

/-! ### Allocation (chapter 3) and supply (chapter 7) -/

/-- A request in the guidance queue (section 3.3). -/
structure Request where
  ticket   : Nat
  station  : Station
  cls      : Nat
  lane     : Nat
  priority : Bool
  enqueued : Time
  deadline : Time
deriving DecidableEq, Repr

/-- A hold in the hold list (section 3.5), with the path kept with it (R76). -/
structure Hold where
  ticket  : Nat
  bay     : Nat
  station : Station
  cls     : Nat
  level   : Nat
  issued  : Time
  expiry  : Time
  path    : List Nat
deriving DecidableEq, Repr

/-- The allocation unit's own state: queue, hold list, numbering, tables and guidance times. -/
structure Guidance where
  queue        : List Request
  holds        : List Hold
  lastTicket   : Nat
  /-- sixteen codes: 0 rank 0, 1 rank 1, 2 none (R57); request class by request class (DEDUCED, log entry 44) -/
  classTable   : List Nat
  /-- penalties of stages 0 to 3 (R58) -/
  penalties    : List Nat
  maxWait      : Nat
  holdTime     : Nat
  substitution : Bool
deriving DecidableEq, Repr

/-- The load allocator's own state: the allowances and what the last computation recorded (R151 to R153). -/
structure Supply where
  normal : Nat
  shed   : Nat
  floorTotal : Nat
  budget : Nat
  k1     : Nat
  k2     : Nat
  k3     : Nat
  short  : Bool
deriving DecidableEq, Repr

/-! ### The field loop (chapter 8) -/

/-- The loop state (section 8.2). -/
inductive LoopState
  | running
  | stopped
  | draining
deriving DecidableEq, Repr

/-- What a transaction asks of its node, built at its start (R163). -/
inductive FieldRequest
  | pollBays
  | setBand (band : Nat)
  | pollGas
  | rowWrite (level : Nat) (sign : Option Nat) (arrow : Bool)
  /-- a figure 0 to 999, FULL when `some none`, blank when `none` -/
  | signWrite (figure : Option (Option Nat))
deriving DecidableEq, Repr

/-- The transaction in flight: its request, whether the last request character has gone out (the reply timer runs from
then on, R164), and the reply characters received so far. -/
structure Transaction where
  address  : Nat
  request  : FieldRequest
  sent     : Bool
  received : List FieldChar
deriving DecidableEq, Repr

/-- The health of a node address (section 8.4). -/
inductive NodeHealth
  | ok
  | missing
  | fault
deriving DecidableEq, Repr

/-- The outcomes of a transaction (R165). -/
inductive FieldOutcome
  | ok
  | crcError
  | frameError
  | wrongAddress
  | noReply
deriving DecidableEq, Repr

/-- The health record of a node address (section 8.4). -/
structure HealthRecord where
  health      : NodeHealth
  failures    : Nat
  lastOutcome : Option FieldOutcome
  lastOk      : Option Time
deriving DecidableEq, Repr

/-- A pending band change (section 8.5): counted or a reset, and its band. -/
structure PendingBand where
  counted : Bool
  band    : Nat
deriving DecidableEq, Repr

/-- The field loop controller. Addresses that `health` does not list hold the record of a full restart (R171). -/
structure FieldLoop where
  state    : LoopState
  pollList : List Nat
  next     : Nat
  current  : Option Transaction
  health   : Table HealthRecord
  pendingBands : Table PendingBand
deriving DecidableEq, Repr

/-! ### Ports and events (chapter 9) -/

/-- The status codes of section 9.2. -/
inductive Status
  | done
  | doneClamped
  | accepted
  | refusedClass
  | refusedMode
  | busy
  | badArgument
  | notFound
  | mismatch
  | queueFull
  | refusedState
  | badConfig
  | unknownCommand
  | badFrame
deriving DecidableEq, Repr

/-- The kinds of event, in the order of their codes 0 to 27 (section 9.5). -/
inductive EventKind
  | restarted
  | modeChanged
  | profileStored
  | profileFailed
  | bayArrival
  | bayDeparture
  | bayUnknown
  | parkedInClosed
  | bandChanged
  | nodeNoisy
  | rampGlitch
  | censusDone
  | censusLimit
  | censusDrift
  | bayAssigned
  | requestLapsed
  | holdMet
  | holdLapsed
  | levelFull
  | levelOpen
  | stageChanged
  | zoneFailsafe
  | headState
  | overrideEnded
  | fanFault
  | fanReversed
  | supplyShort
  | nodeState
deriving DecidableEq, Repr

/-- An event record (section 9.5). -/
structure EventRecord where
  kind    : EventKind
  time    : Time
  subject : Nat
  a       : Nat
  b       : Nat
deriving DecidableEq, Repr

/-- A port flags byte, flag by flag (R177). -/
structure PortFlags where
  commandOverrun : Bool
  eventsWaiting  : Bool
  more           : Bool
  config         : Bool
  profileBusy    : Bool
deriving DecidableEq, Repr

/-- A response frame built and not yet read out whole (section 9.8), before it is laid out with its length and CRC. -/
structure Response where
  tag      : Nat
  code     : Nat
  status   : Status
  flags    : PortFlags
  contents : List Byte
deriving DecidableEq, Repr

/-- A port's transaction: SEL high; SEL low with the frame fixed at its fall (none: the empty frame, or the frame is out
already) and whether the transaction's one command frame is over; or abandoned at a restart until SEL rises (R174, R181). -/
inductive PortTransaction
  | idle
  | active (out : Option Response) (frameOver : Bool)
  | abandoned
deriving DecidableEq, Repr

/-- A station port (section 9.1). -/
structure Port where
  commands     : List Entry
  responses    : List Response
  overrun      : Bool
  mask         : BitVec 32
  events       : List EventRecord
  eventOverrun : Bool
  transaction  : PortTransaction
deriving DecidableEq, Repr

/-- The three ports. -/
structure Ports where
  supervisor : Port
  lane       : Port
  guidance   : Port
deriving DecidableEq, Repr

/-! ### The mode controller (chapter 10) -/

/-- RUN or CONFIG. -/
inductive Mode
  | run
  | config
deriving DecidableEq, Repr

/-- The causes of a restart (R181). -/
inductive RestartCause
  | powerOn
  | pin
  | hardCommand
  | softCommand
deriving DecidableEq, Repr

/-- A configuration: the records the blocks hold in force, without their runtime fields (section 10.2). The working copy
is one, and a profile holds one. -/
structure Configuration where
  bays     : Table BayCfg
  pairs    : Table PairCfg
  levels   : Table LevelCfg
  rows     : Table RowCfg
  heads    : Table HeadCfg
  zones    : Table ZoneCfg
  fans     : Table FanCfg
  pollList : List Nat
  jitter   : Nat
deriving DecidableEq, Repr

/-- What a profile holds (R192). -/
structure Profile where
  config       : Configuration
  classTable   : List Nat
  penalties    : List Nat
  stageTable   : StageTable
  fade         : Nat
  normal       : Nat
  shed         : Nat
  maxWait      : Nat
  holdTime     : Nat
  substitution : Bool
  maskS        : BitVec 32
  maskL        : BitVec 32
  maskG        : BitVec 32
deriving DecidableEq, Repr

/-- A profile write in flight: when it began, when its timer expires, and the contents taken at its start (R192). -/
structure ProfileWrite where
  started  : Time
  expires  : Time
  contents : Profile
deriving DecidableEq, Repr

/-- The mode controller. `store` is the non-volatile store's complete profile with a good CRC, when it holds one. -/
structure Control where
  mode         : Mode
  working      : Option Configuration
  profileValid : Bool
  write        : Option ProfileWrite
  store        : Option Profile
  cause        : RestartCause
  strapHigh    : Bool
  /-- RESET_N is low and the part is held in restart (R193) -/
  resetHeld    : Bool
deriving DecidableEq, Repr

/-- The levels of the input pins the part reads: ramp loops, fan faults (bit set: asserted) and SHED. -/
structure Pins where
  rampA : BitVec 16
  rampB : BitVec 16
  fanFault : BitVec 24
  shed  : Bool
deriving DecidableEq, Repr

/-! ### The state -/

/-- The whole state of the block and the queue of commands waiting to be taken. -/
structure State where
  /-- the commands waiting, first in, first out (the model's own field) -/
  pending     : List Instr
  deckTime    : Time
  control     : Control
  pins        : Pins
  ports       : Ports
  bays        : Table Bay
  /-- addresses not listed are at band 0 with no counted change -/
  bands       : Table BandRecord
  jitter      : Nat
  pairs       : Table RampPair
  levels      : Table Level
  /-- next expiry of the census unit's minute timer (R37) -/
  censusMinute : Time
  /-- expiry of the census unit's start timer while it runs (R41) -/
  censusStart : Option Time
  rows        : Table Row
  /-- the fade interval, in tenths of a second (R89) -/
  fade        : Nat
  heads       : Table Head
  zones       : Table Zone
  stageTable  : StageTable
  /-- next expiry of the air quality unit's minute timer (R104) -/
  airMinute   : Time
  fans        : Table Fan
  guidance    : Guidance
  supply      : Supply
  loop        : FieldLoop
deriving DecidableEq, Repr

/-- The reasons a step can stop with a fault. There is none: every command of the table has an effect, or leaves the part
as it stands, in every state. (Safe: nothing is cut short.) -/
inductive Fault
deriving DecidableEq, Repr

/-- The reasons a step can refuse. -/
inductive Refusal
  /-- Raised by `exec` alone, for a command that has no meaning yet; none is left. Safe: the run stops there. -/
  | notModelled (mnemonic : String)
deriving DecidableEq, Repr

/-! ### Defaults and the state after reset -/

/-- The configuration with no record and the default device settings (R193 step 3, section 10.2). -/
def Configuration.empty : Configuration :=
  { bays := [], pairs := [], levels := [], rows := [], heads := [], zones := [], fans := [], pollList := [], jitter := 120 }

/-- The default class table (section 3.4), a row for each request class (order of the entries: DEDUCED, log entry 44). -/
def defaultClassTable : List Nat :=
  [0, 2, 2, 2,
   2, 0, 1, 2,
   1, 2, 0, 2,
   1, 2, 2, 0]

/-- The default penalty table (section 3.4). -/
def defaultPenalties : List Nat := [0, 0, 500, 2000]

/-- The default stage table (section 5.4). -/
def defaultStageTable : StageTable :=
  { stages := [⟨25, 50, 20, 30⟩, ⟨50, 100, 40, 55⟩, ⟨75, 150, 60, 80⟩, ⟨100, 200, 80, 100⟩], hysteresis := 20, dwell := 180 }

/-- The default masks (section 9.5): kinds 0 to 13 and 18 to 27, kinds 14 to 19, kinds 4 to 20. -/
def defaultMask : Station → BitVec 32
  | .supervisor => 0x0FFC3FFF#32
  | .lane => 0x000FC000#32
  | .guidance => 0x001FFFF0#32

/-- A port right after a full restart that found no profile, SEL high (R181, R193). -/
def Port.reset (st : Station) : Port :=
  { commands := [], responses := [], overrun := false, mask := defaultMask st,
    events := [⟨.restarted, 0#32, 0, 0, 1⟩], eventOverrun := false, transaction := .idle }

/-- The part right after a power-on with no valid profile in the store: CONFIG mode with an empty working copy, every
table at its default, RESTARTED queued on every station (R193, R181, and the restart tables R24, R44, R74, R93, R122,
R145, R160, R171). The input pins stand at their inactive levels and the strap low (DESIGN CHOICE, log entries 2 and 3). F, B
and the scales stand at 0 before the first computation (DESIGN CHOICE, log entry 39). -/
def State.reset : State :=
  { pending := []
    deckTime := 0#32
    control :=
      { mode := .config, working := some Configuration.empty, profileValid := false, write := none, store := none,
        cause := .powerOn, strapHigh := false, resetHeld := false }
    pins := { rampA := 0#16, rampB := 0#16, fanFault := 0#24, shed := false }
    ports := { supervisor := Port.reset .supervisor, lane := Port.reset .lane, guidance := Port.reset .guidance }
    bays := []
    bands := []
    jitter := 120
    pairs := []
    levels := []
    censusMinute := 600#32
    censusStart := some 300#32
    rows := []
    fade := 5
    heads := []
    zones := []
    stageTable := defaultStageTable
    airMinute := 600#32
    fans := []
    guidance :=
      { queue := [], holds := [], lastTicket := 0, classTable := defaultClassTable, penalties := defaultPenalties,
        maxWait := 900, holdTime := 300, substitution := true }
    supply := { normal := 2000000, shed := 50000, floorTotal := 0, budget := 0, k1 := 0, k2 := 0, k3 := 0, short := false }
    loop := { state := .stopped, pollList := [], next := 0, current := none, health := [], pendingBands := [] } }

end Sys2Proof.Machine
end

