-- ==== Sys2Proof/Machine/Tables.lean ====
section
/-! DEFINITION. Operations on record tables (numbers strictly rising) and on plain lists and numbers. -/

namespace Sys2Proof.Machine

/-- The record of number `k`, if there is one. -/
def Table.find {α : Type} : Table α → Nat → Option α
  | [], _ => none
  | (i, x) :: rest, k => if i = k then some x else Table.find rest k

/-- Creates or replaces the record of number `k`, keeping the numbers rising. -/
def Table.put {α : Type} (k : Nat) (v : α) : Table α → Table α
  | [] => [(k, v)]
  | (i, x) :: rest =>
    if k < i then (k, v) :: (i, x) :: rest
    else if k = i then (k, v) :: rest
    else (i, x) :: Table.put k v rest

/-- Removes the record of number `k`. -/
def Table.erase {α : Type} (k : Nat) : Table α → Table α
  | [] => []
  | (i, x) :: rest => if i = k then rest else (i, x) :: Table.erase k rest

/-- Changes the record of number `k`, if there is one. -/
def Table.modify {α : Type} (k : Nat) (f : α → α) : Table α → Table α
  | [] => []
  | (i, x) :: rest => if i = k then (i, f x) :: rest else (i, x) :: Table.modify k f rest

/-- Rewrites every record, number by number. -/
def Table.mapRecords {α β : Type} (f : Nat → α → β) (t : Table α) : Table β :=
  t.map fun p => (p.1, f p.1 p.2)

/-- The record of number `k` of a table in which unlisted numbers hold `d`. -/
def Table.findD {α : Type} (t : Table α) (k : Nat) (d : α) : α := (t.find k).getD d

/-- Writes the record of number `k` of a table in which unlisted numbers hold `d`; a record equal to `d` is not listed,
so that equal contents are equal tables. -/
def Table.putD {α : Type} [DecidableEq α] (k : Nat) (v d : α) (t : Table α) : Table α :=
  if v = d then t.erase k else t.put k v

/-- Whether a record of number `k` is there. -/
def Table.has {α : Type} (t : Table α) (k : Nat) : Bool := (t.find k).isSome

/-- The numbers in use, rising. -/
def Table.numbers {α : Type} (t : Table α) : List Nat := t.map (·.1)

/-- The form every table keeps: numbers strictly rising. -/
def Table.rising {α : Type} : Table α → Bool
  | [] => true
  | [_] => true
  | (i, _) :: (j, y) :: rest => decide (i < j) && Table.rising ((j, y) :: rest)

/-- Runs an action for each element in order. -/
def forEach {α σ : Type} (l : List α) (f : α → σ → σ) (s : σ) : σ := l.foldl (fun s x => f x s) s

/-- Division rounded up (Conventions, "Rounding"). -/
def ceilDiv (a b : Nat) : Nat := (a + b - 1) / b

/-- A value replaced by the nearer end of its range when it lies outside (Conventions, "clamped"). -/
def clamp (lo hi x : Nat) : Nat := max lo (min hi x)

/-- The sum of a figure over a list. -/
def sumOf {α : Type} (f : α → Nat) (l : List α) : Nat := l.foldr (fun x n => f x + n) 0

/-- The last `n` elements of a list. -/
def lastN {α : Type} (n : Nat) (l : List α) : List α := l.drop (l.length - n)

/-- The largest of a list, 0 when it is empty. -/
def maxOf (l : List Nat) : Nat := l.foldr max 0

end Sys2Proof.Machine
end

