-- ==== Sys2Proof/Machine/Ops.lean ====
section
/-! DEFINITION. The shared operations over the state: deck time, the named updates of records, the event router, and the
figures the manual has the blocks keep in step with other state, each computed here from the one place that holds it. -/

namespace Sys2Proof.Machine

/-! ### Deck time (R186) -/

/-- The deck time `tenths` after `now`. -/
def Time.plus (now : Time) (tenths : Nat) : Time := now + BitVec.ofNat 32 tenths

/-- Tenths of a second from `t` to `now`, taken modulo 2^32 (R186). -/
def Time.since (now t : Time) : Nat := (now - t).toNat

/-- Whether an expiry has been reached: stored times are compared as differences from the present modulo 2^32 (R186). -/
def Time.reached (now expires : Time) : Bool := decide (Time.since now expires < 2147483648)

/-- Tenths of a second left until an expiry; 0 once it is reached. -/
def Time.left (now expires : Time) : Nat :=
  if Time.reached now expires then 0 else (expires - now).toNat

/-- Whether a one-shot timer is running and has reached its expiry. -/
def timerDue (now : Time) (timer : Option Time) : Bool :=
  match timer with
  | some e => Time.reached now e
  | none => false

/-- Tenths of a second left on a timer; 0 when it is not running. -/
def timerLeft (now : Time) (timer : Option Time) : Nat :=
  match timer with
  | some e => Time.left now e
  | none => 0

/-! ### Named updates -/

/-- The port of a station. -/
def State.port (s : State) : Station → Port
  | .supervisor => s.ports.supervisor
  | .lane => s.ports.lane
  | .guidance => s.ports.guidance

/-- Replaces the port of a station. -/
def State.setPort (s : State) (st : Station) (p : Port) : State :=
  match st with
  | .supervisor => { s with ports := { s.ports with supervisor := p } }
  | .lane => { s with ports := { s.ports with lane := p } }
  | .guidance => { s with ports := { s.ports with guidance := p } }

def State.modBay (s : State) (n : Nat) (f : Bay → Bay) : State := { s with bays := s.bays.modify n f }
def State.modPair (s : State) (n : Nat) (f : RampPair → RampPair) : State := { s with pairs := s.pairs.modify n f }
def State.modLevel (s : State) (n : Nat) (f : Level → Level) : State := { s with levels := s.levels.modify n f }
def State.modRow (s : State) (n : Nat) (f : Row → Row) : State := { s with rows := s.rows.modify n f }
def State.modHead (s : State) (n : Nat) (f : Head → Head) : State := { s with heads := s.heads.modify n f }
def State.modZone (s : State) (n : Nat) (f : Zone → Zone) : State := { s with zones := s.zones.modify n f }
def State.modFan (s : State) (n : Nat) (f : Fan → Fan) : State := { s with fans := s.fans.modify n f }
def State.setGuidance (s : State) (g : Guidance) : State := { s with guidance := g }
def State.setSupply (s : State) (u : Supply) : State := { s with supply := u }
def State.setLoop (s : State) (l : FieldLoop) : State := { s with loop := l }
def State.setControl (s : State) (c : Control) : State := { s with control := c }

/-- Whether the device is in RUN mode. -/
def State.inRun (s : State) : Bool := decide (s.control.mode = .run)

/-- Whether a profile write is in flight (R192). -/
def State.writing (s : State) : Bool := s.control.write.isSome

/-! ### Codes -/

def Station.code : Station → Nat
  | .supervisor => 0
  | .lane => 1
  | .guidance => 2

def Sensed.code : Sensed → Nat
  | .vacant => 0
  | .present => 1
  | .unknown => 2

def Admin.code : Admin → Nat
  | .opened => 0
  | .held _ => 1
  | .claimed _ => 2
  | .closed => 3

def HeadHealth.code : HeadHealth → Nat
  | .none => 0
  | .warmup => 1
  | .valid => 2
  | .stale => 3
  | .fault => 4

def Direction.code : Direction → Nat
  | .forward => 0
  | .reverse => 1

def Pattern.code : Pattern → Nat
  | .a => 0
  | .b => 1

def FanState.code : FanState → Nat
  | .stopped => 0
  | .accelerating => 1
  | .steady => 2
  | .decelerating => 3
  | .reversingDown => 4
  | .reverseDwell => 5
  | .faulted => 6
  | .isolated => 7
  | .held => 8

def RowStep.code : RowStep → Nat
  | .still => 0
  | .rising _ => 1
  | .riseHeld => 2
  | .fading _ => 3
  | .frozen => 4

def LoopState.code : LoopState → Nat
  | .running => 0
  | .stopped => 1
  | .draining => 2

def NodeHealth.code : NodeHealth → Nat
  | .ok => 0
  | .missing => 1
  | .fault => 2

def FieldOutcome.code : FieldOutcome → Nat
  | .ok => 0
  | .crcError => 1
  | .frameError => 2
  | .wrongAddress => 3
  | .noReply => 4

def Mode.code : Mode → Nat
  | .run => 0
  | .config => 1

def RestartCause.code : RestartCause → Nat
  | .powerOn => 0
  | .pin => 1
  | .hardCommand => 2
  | .softCommand => 3

def Drift.code : Drift → Nat
  | .idle => 0
  | .timing _ => 1
  | .reported => 2

def Status.code : Status → Nat
  | .done => 0x00
  | .doneClamped => 0x01
  | .accepted => 0x02
  | .refusedClass => 0x10
  | .refusedMode => 0x11
  | .busy => 0x12
  | .badArgument => 0x13
  | .notFound => 0x14
  | .mismatch => 0x15
  | .queueFull => 0x16
  | .refusedState => 0x18
  | .badConfig => 0x19
  | .unknownCommand => 0x1E
  | .badFrame => 0x1F

def EventKind.code : EventKind → Nat
  | .restarted => 0
  | .modeChanged => 1
  | .profileStored => 2
  | .profileFailed => 3
  | .bayArrival => 4
  | .bayDeparture => 5
  | .bayUnknown => 6
  | .parkedInClosed => 7
  | .bandChanged => 8
  | .nodeNoisy => 9
  | .rampGlitch => 10
  | .censusDone => 11
  | .censusLimit => 12
  | .censusDrift => 13
  | .bayAssigned => 14
  | .requestLapsed => 15
  | .holdMet => 16
  | .holdLapsed => 17
  | .levelFull => 18
  | .levelOpen => 19
  | .stageChanged => 20
  | .zoneFailsafe => 21
  | .headState => 22
  | .overrideEnded => 23
  | .fanFault => 24
  | .fanReversed => 25
  | .supplyShort => 26
  | .nodeState => 27

/-! ### The event router (R179, R180) -/

/-- A record delivered to a station's queue: it joins at the newest end, or, at 24 records, it is discarded and the
event-overrun flag is set (R180). -/
def deliver (st : Station) (e : EventRecord) (s : State) : State :=
  let p := s.port st
  if p.events.length < 24 then s.setPort st { p with events := p.events ++ [e] }
  else s.setPort st { p with eventOverrun := true }

/-- Delivery of a record to one station when its mask, as it stands, holds the kind (R179). -/
def deliverMasked (st : Station) (e : EventRecord) (s : State) : State :=
  if (s.port st).mask.getLsbD e.kind.code then deliver st e s else s

/-- The record a block posts now (R186: stamped with the present deck time). -/
def eventNow (s : State) (kind : EventKind) (subject a b : Nat) : EventRecord :=
  { kind := kind, time := s.deckTime, subject := subject, a := a, b := b }

/-- Posts a non-addressed event: to every station whose mask holds its kind (R179). -/
def post (kind : EventKind) (subject a b : Nat) (s : State) : State :=
  let e := eventNow s kind subject a b
  deliverMasked .guidance e (deliverMasked .lane e (deliverMasked .supervisor e s))

/-- Posts an event addressed to one station, which no other receives (R179). -/
def postTo (st : Station) (kind : EventKind) (subject a b : Nat) (s : State) : State :=
  deliverMasked st (eventNow s kind subject a b) s

/-- Queues RESTARTED on every station, whatever the masks say (R179, R181). -/
def postRestarted (a b : Nat) (s : State) : State :=
  let e := eventNow s .restarted s.control.cause.code a b
  deliver .guidance e (deliver .lane e (deliver .supervisor e s))

/-! ### Nodes and band records -/

/-- The health record of an address after a full restart (R171). -/
def HealthRecord.fresh : HealthRecord := { health := .ok, failures := 0, lastOutcome := none, lastOk := none }

/-- The health record of an address (R167). -/
def State.nodeRecord (s : State) (address : Nat) : HealthRecord := s.loop.health.findD address .fresh

/-- The health of an address. -/
def State.nodeHealth (s : State) (address : Nat) : NodeHealth := (s.nodeRecord address).health

/-- Band 0 and no counted change (R15). -/
def BandRecord.fresh : BandRecord := { band := 0, changes := [] }

/-- The band record of a bay node address. -/
def State.bandRecord (s : State) (node : Nat) : BandRecord := s.bands.findD node .fresh

/-- The reference of a bay at a band, when it has one. -/
def BayCfg.reference (c : BayCfg) : Nat → Option Nat
  | 0 => c.ref0
  | 1 => c.ref1
  | 2 => c.ref2
  | 3 => c.ref3
  | _ => none

/-! ### Rows, levels and zones of a bay -/

/-- The level of a row in force. -/
def State.rowLevel (s : State) (row : Nat) : Nat := ((s.rows.find row).map (·.cfg.level)).getD 0

/-- The stage of a zone; a zone with no record has none and reads as stage 0. -/
def State.zoneStage (s : State) (zone : Nat) : Nat := ((s.zones.find zone).map (·.stage)).getD 0

/-- The stage of the zone of a row (the zone of every bay in it). -/
def State.rowStage (s : State) (row : Nat) : Nat :=
  match s.rows.find row with
  | some r => s.zoneStage r.cfg.zone
  | none => 0

/-! ### Free and offered counts (R19 to R21) -/

/-- A bay that is OPEN and VACANT. -/
def Bay.isFree (b : Bay) : Bool := decide (b.admin = .opened) && decide (b.sensed = .vacant)

/-- The free count of a row and class (R19). -/
def State.freeCount (s : State) (row cls : Nat) : Nat :=
  s.bays.countP fun p => decide (p.2.cfg.row = row) && decide (p.2.cfg.cls = cls) && p.2.isFree

/-- The offered count of a row and class: its free bays while its zone is below stage 4, none at stage 4 (R19, R20). -/
def State.offeredCount (s : State) (row cls : Nat) : Nat :=
  if s.rowStage row < 4 then s.freeCount row cls else 0

/-- A row's count over the three non-staff classes. -/
def nonStaff (count : Nat → Nat) : Nat := count 0 + count 1 + count 2

/-- The sum of a row figure over the rows of a level. -/
def State.overLevel (s : State) (level : Nat) (f : Nat → Nat) : Nat :=
  sumOf (fun p => f p.1) (s.rows.filter fun p => decide (p.2.cfg.level = level))

/-- The non-staff free total of a level (R21). -/
def State.levelFree (s : State) (level : Nat) : Nat := s.overLevel level fun r => nonStaff (s.freeCount r)

/-- The non-staff offered total of a level (R21). -/
def State.levelOffered (s : State) (level : Nat) : Nat := s.overLevel level fun r => nonStaff (s.offeredCount r)

/-- Compares a level's non-staff offered total with what it was before a change, and posts LEVEL_FULL or LEVEL_OPEN where
it went to or from 0 (R21). -/
def levelCheckFrom (was level : Nat) (s : State) : State :=
  let total := s.levelOffered level
  if 0 < was && total = 0 then post .levelFull level (s.levelFree level) 0 s
  else if was = 0 && 0 < total then post .levelOpen level total 0 s
  else s

/-- The comparison of R21 for one level, against the state before the change. -/
def levelCheck (before : State) (level : Nat) (s : State) : State := levelCheckFrom (before.levelOffered level) level s

/-! ### The census figures (R35, R38) -/

/-- The present count S of a level: its defined bays that are PRESENT (R35). -/
def State.presentCount (s : State) (level : Nat) : Nat :=
  s.bays.countP fun p => decide (p.2.sensed = .present) && decide (s.rowLevel p.2.cfg.row = level)

/-- M, the sum of the five buckets. -/
def Level.movements (l : Level) : Nat := sumOf id l.ring

/-- The traffic index T = M + w × max(0, L − S), at most 65535 (R38). -/
def State.trafficIndex (s : State) (level : Nat) : Nat :=
  match s.levels.find level with
  | some l => min 65535 (l.movements + l.cfg.weight * (l.count - s.presentCount level))
  | none => 0

/-- The demand a slot of a traffic range table gives for an index; none and 255 contribute nothing (R115). -/
def rangeDemand (t : Nat) (slot : Option TrafficRange) : Nat :=
  match slot with
  | some r => if r.lower ≤ t ∧ t ≤ r.upper ∧ r.demand ≠ 255 then r.demand else 0
  | none => 0

/-- The traffic demand of a level (R115); a level with no record in force gives 0. -/
def State.trafficDemand (s : State) (level : Nat) : Nat :=
  match s.levels.find level with
  | some l => maxOf (l.cfg.traffic.map (rangeDemand (s.trafficIndex level)))
  | none => 0

/-! ### Zone figures (R102, R105, R117) -/

/-- A usable head is VALID or STALE (section 5.2). -/
def Head.usable (h : Head) : Bool := decide (h.health = .valid) || decide (h.health = .stale)

/-- The usable heads in force of a zone. -/
def State.usableHeads (s : State) (zone : Nat) : List Head :=
  (s.heads.filter fun p => decide (p.2.cfg.zone = zone) && p.2.usable).map (·.2)

/-- The mean of a ring, rounded down; with an empty ring the instantaneous value (R105). -/
def ringMean (ring : List Nat) (inst : Nat) : Nat :=
  if ring.isEmpty then inst else sumOf id ring / ring.length

def Zone.coMean (z : Zone) : Nat := ringMean z.coRing z.coInst
def Zone.no2Mean (z : Zone) : Nat := ringMean z.no2Ring z.no2Inst

/-- The thresholds and demand of stage 1 to 4. -/
def StageTable.row (t : StageTable) (k : Nat) : StageRow := t.stages.getD (k - 1) ⟨0, 0, 0, 0⟩

/-- The stage demand: 0 for stage 0, else the table's (section 5.4). -/
def StageTable.demand (t : StageTable) (k : Nat) : Nat := if k = 0 then 0 else (t.row k).demand

/-- A zone's demand, the largest of its stage, traffic, override and fail-safe demands (R117). -/
def State.zoneDemand (s : State) (z : Zone) : Nat :=
  max (s.stageTable.demand z.stage)
    (max (s.trafficDemand z.cfg.level)
      (max ((z.override.map (·.demand)).getD 0) (if z.failsafe then z.cfg.failsafeDemand else 0)))

/-- A zone's fan class: 1 at stage 3 or 4, in FAILSAFE or under an override, else 3 (R117). -/
def Zone.fanClass (z : Zone) : Nat := if 3 ≤ z.stage || z.failsafe || z.override.isSome then 1 else 3

/-! ### Paths and arrows (R76, R84) -/

/-- The rows from a row up to its root row, at most `fuel` of them (R76: every path in force holds 1 to 8). -/
def pathFrom (rows : Table Row) : Nat → Nat → List Nat
  | 0, _ => []
  | fuel + 1, n =>
    match rows.find n with
    | none => []
    | some r =>
      match r.cfg.parent with
      | .pair _ => [n]
      | .row p => n :: pathFrom rows fuel p

/-- The path of a row. -/
def State.path (s : State) (row : Nat) : List Nat := pathFrom s.rows 8 row

/-- The path-hold count of a row: the holds whose kept path passes through it (R84). -/
def State.pathHolds (s : State) (row : Nat) : Nat := s.guidance.holds.countP fun h => h.path.contains row

/-- The arrow flag of a row (R84). -/
def State.arrow (s : State) (row : Nat) : Bool := decide (0 < s.pathHolds row)

/-! ### Fans: due direction, request, floor (R125, R126) -/

/-- The due direction of a fan (R125). -/
def State.dueDirection (s : State) (f : Fan) : Direction :=
  if f.cfg.reversible then
    match s.zones.find f.cfg.zone with
    | some z => if z.pattern = .b then f.cfg.dirB else f.cfg.dirA
    | none => f.cfg.dirA
  else f.cfg.dirA

/-- The request of a fan for a zone demand (R126). -/
def FanCfg.requestFor (c : FanCfg) (demand : Nat) : Nat :=
  if demand = 0 then 0 else min c.maxSpeed (max demand c.minRun)

/-- The floor of a fan for its class (R126). -/
def FanCfg.floorFor (c : FanCfg) (cls : Nat) : Nat := if cls = 1 then c.minRun else 0

/-- A fan with request, floor and class formed from its zone as it stands (R126). -/
def State.formRequest (s : State) (f : Fan) : Fan :=
  match s.zones.find f.cfg.zone with
  | some z => { f with request := f.cfg.requestFor (s.zoneDemand z), floor := f.cfg.floorFor z.fanClass, cls := z.fanClass }
  | none => f

/-- The handover of zone demand and class to every fan (R117, R126). -/
def handDemands (s : State) : State := { s with fans := s.fans.mapRecords fun _ f => s.formRequest f }

/-! ### Draws (R83, R128, R147) -/

/-- The power of a fan at a speed: ceil(rated × speed³ / 1,000,000). -/
def FanCfg.power (c : FanCfg) (g : Nat) : Nat := ceilDiv (c.rated * g ^ 3) 1000000

/-- The power of a row at a level: ceil(rated × level / 100), or its rated power at every level while its node is at FAULT. -/
def State.rowPower (s : State) (r : Row) (g : Nat) : Nat :=
  if s.nodeHealth r.cfg.node = .fault then r.cfg.rated else ceilDiv (r.cfg.rated * g) 100

def Fan.draw (f : Fan) : Nat := f.cfg.power f.commanded
def Fan.floorDraw (f : Fan) : Nat := f.cfg.power f.floor
def State.rowDraw (s : State) (r : Row) : Nat := s.rowPower r r.commanded
def State.rowFloorDraw (s : State) (r : Row) : Nat := s.rowPower r r.cfg.base

/-- A fan in force is a load unless it is FAULTED or ISOLATED (R146). -/
def Fan.isLoad (f : Fan) : Bool := decide (f.state ≠ .faulted) && decide (f.state ≠ .isolated)

/-- The fans of the inventory, by channel. -/
def State.fanLoads (s : State) : Table Fan := s.fans.filter fun p => p.2.isLoad

/-- The total draw D of the loads in the inventory (R147). -/
def State.totalDraw (s : State) : Nat :=
  sumOf (fun p => p.2.draw) s.fanLoads + sumOf (fun p => s.rowDraw p.2) s.rows

/-- The sum of the floor draws of the loads in the inventory (R151). -/
def State.floorSum (s : State) : Nat :=
  sumOf (fun p => p.2.floorDraw) s.fanLoads + sumOf (fun p => s.rowFloorDraw p.2) s.rows

/-- The sum of the loads' granted powers (R154). -/
def State.grantedSum (s : State) : Nat :=
  sumOf (fun p => p.2.cfg.power p.2.granted) s.fanLoads + sumOf (fun p => s.rowPower p.2 p.2.granted) s.rows

/-- The effective allowance A (R148). -/
def State.allowance (s : State) : Nat := if s.pins.shed then s.supply.shed else s.supply.normal

/-! ### The configuration in force -/

/-- The configuration in force: the configuration fields of every record, the poll list and the device settings. -/
def State.inForce (s : State) : Configuration :=
  { bays := s.bays.mapRecords fun _ b => b.cfg
    pairs := s.pairs.mapRecords fun _ p => p.cfg
    levels := s.levels.mapRecords fun _ l => l.cfg
    rows := s.rows.mapRecords fun _ r => r.cfg
    heads := s.heads.mapRecords fun _ h => h.cfg
    zones := s.zones.mapRecords fun _ z => z.cfg
    fans := s.fans.mapRecords fun _ f => f.cfg
    pollList := s.loop.pollList
    jitter := s.jitter }

end Sys2Proof.Machine
end

