-- ==== Sys2Proof/Machine/Loads.lean ====
section
/-! DEFINITION. The loads: the headroom test, the steps of rows and fans, how each acts on a grant, the held rises, and
the computation that divides the allowance (chapters 4, 6 and 7). -/

namespace Sys2Proof.Machine

/-! ### The headroom test (R155) -/

/-- The headroom test of a step that takes a load from `draw` to `next`, with its floor draw. -/
def headroom (s : State) (draw next floorDraw : Nat) : Bool :=
  decide (s.totalDraw - draw + next ≤ max s.allowance s.supply.floorTotal) || decide (next ≤ floorDraw)

/-- Whether a rise step of a row may be taken: one that raises no draw takes no test (R80). -/
def mayRise (s : State) (draw next floorDraw : Nat) : Bool := decide (next ≤ draw) || headroom s draw next floorDraw

/-! ### Row steps (R79 to R81) -/

/-- The step state of a row whose commanded level has been set below or at its grant by a rise step. -/
def Row.afterRise (now : Time) (r : Row) (level : Nat) : Row :=
  { r with commanded := level, step := if level < r.granted then .rising (Time.plus now 1) else .still }

/-- One rise step of a row, or a place on the held-rise list (R80). -/
def rowRise (n : Nat) (s : State) : State :=
  match s.rows.find n with
  | none => s
  | some r =>
    let level := r.commanded + min 5 (r.granted - r.commanded)
    if mayRise s (s.rowDraw r) (s.rowPower r level) (s.rowFloorDraw r) then
      s.modRow n fun r => r.afterRise s.deckTime level
    else s.modRow n fun r => { r with step := .riseHeld }

/-- A row set by the comparison of its new grant with its commanded level (R79); a FROZEN row leaves CONFIG, and a row at
a restart is set, as a STILL one (R92, R93). -/
def Row.actOnGrant (now : Time) (fade : Nat) (r : Row) (g : Nat) : Row :=
  let fading := RowStep.fading (Time.plus now fade)
  let rising := RowStep.rising (Time.plus now 1)
  let step :=
    if r.commanded < g then
      match r.step with
      | .rising e => .rising e
      | .riseHeld => .riseHeld
      | .still => rising
      | .fading _ => rising
      | .frozen => rising
    else if r.commanded = g then .still
    else
      match r.step with
      | .fading e => .fading e
      | .still => fading
      | .rising _ => fading
      | .riseHeld => fading
      | .frozen => fading
  { r with granted := g, step := step }

/-- Hands a grant to a row (R79, R154). -/
def grantRow (n g : Nat) (s : State) : State := s.modRow n fun r => r.actOnGrant s.deckTime s.fade g

/-! ### Fan steps (R129 to R133) -/

/-- A fan off the held-rise list. -/
def Fan.released (f : Fan) : Fan := { f with rampHeld := false }

/-- A fan whose start or acceleration step to `speed` has passed: timer and state by the grant (R130, R131). -/
def Fan.afterRise (now : Time) (f : Fan) (speed : Nat) : Fan :=
  if speed < f.granted then
    { f with commanded := speed, rampHeld := false, state := .accelerating, timer := some (Time.plus now f.cfg.accel) }
  else { f with commanded := speed, rampHeld := false, state := .steady, timer := none }

/-- Tries to take a fan up to `speed`: every start and acceleration step is put to the headroom test (R130, R131), one whose
rounded power is no greater too (log entry 14). A step that fails leaves the fan where it is, with no timer and FAN_RAMP_HELD
set. -/
def fanRise (ch speed : Nat) (s : State) : State :=
  match s.fans.find ch with
  | none => s
  | some f =>
    if headroom s f.draw (f.cfg.power speed) f.floorDraw then
      s.modFan ch fun f => f.afterRise s.deckTime speed
    else s.modFan ch fun f => { f with rampHeld := true, timer := none }

/-- The start step of a STOPPED fan (R130). -/
def fanStart (ch : Nat) (s : State) : State :=
  match s.fans.find ch with
  | some f => fanRise ch f.cfg.start s
  | none => s

/-- One acceleration step (R131). -/
def fanAccelerate (ch : Nat) (s : State) : State :=
  match s.fans.find ch with
  | some f => fanRise ch (f.commanded + 1) s
  | none => s

/-- A fan that starts its deceleration timer. -/
def Fan.startDecel (now : Time) (f : Fan) (state : FanState) : Fan :=
  { f with state := state, rampHeld := false, timer := some (Time.plus now f.cfg.decel) }

/-- Hands a grant to a fan in RUN mode: the grant is stored and the state moves by the table of R129. -/
def grantFan (ch g : Nat) (s : State) : State :=
  match s.fans.find ch with
  | none => s
  | some f =>
    let s1 := s.modFan ch fun f => { f with granted := g }
    let steady := fun (f : Fan) => { f with state := FanState.steady, rampHeld := false, timer := none }
    match f.state with
    | .stopped =>
      if 0 < g then (if f.rampHeld then s1 else fanStart ch s1)
      else s1.modFan ch Fan.released
    | .accelerating =>
      if f.commanded < g then s1
      else if f.commanded = g then s1.modFan ch steady
      else s1.modFan ch fun f => f.startDecel s.deckTime .decelerating
    | .steady =>
      if f.commanded < g then
        s1.modFan ch fun f => { f with state := .accelerating, timer := some (Time.plus s.deckTime f.cfg.accel) }
      else if f.commanded = g then s1
      else s1.modFan ch fun f => f.startDecel s.deckTime .decelerating
    | .decelerating =>
      if f.commanded < g then
        s1.modFan ch fun f => { f with state := .accelerating, timer := some (Time.plus s.deckTime f.cfg.accel) }
      else if f.commanded = g then s1.modFan ch steady
      else s1
    | .reversingDown => s1
    | .reverseDwell => s1
    | .faulted => s1
    | .isolated => s1
    | .held => s1

/-! ### The held-rise list (R156, R157) -/

/-- A load: a fan channel or a row. -/
inductive Load
  | fan (channel : Nat)
  | row (n : Nat)
deriving DecidableEq, Repr

/-- The held fans of a class, by channel. -/
def heldFans (s : State) (cls : Nat) : List Load :=
  (s.fans.filter fun p => p.2.rampHeld && decide (p.2.cls = cls)).map fun p => .fan p.1

/-- The held rows, by number. -/
def heldRows (s : State) : List Load :=
  (s.rows.filter fun p => decide (p.2.step = .riseHeld)).map fun p => .row p.1

/-- The held-rise list in its order: class 1 (fans), class 2 (rows), class 3 (fans), each by number (R156). -/
def heldList (s : State) : List Load := heldFans s 1 ++ heldRows s ++ heldFans s 3

/-- The held position of a load, 1 first, 0 when it is not on the list (section 7.1). -/
def heldPosition (s : State) (l : Load) : Nat :=
  match (heldList s).findIdx? (fun x => decide (x = l)) with
  | some i => i + 1
  | none => 0

/-- One load of the list tries its step again (R80, R132, R157). -/
def retryLoad (l : Load) (s : State) : State :=
  match l with
  | .row n => rowRise n s
  | .fan ch =>
    match s.fans.find ch with
    | some f =>
      if f.state = .stopped then fanStart ch s
      else if f.state = .accelerating then fanAccelerate ch s
      else s
    | none => s

/-- The retry of the held rises: the list as it stands when the retry begins, each load once, in order (R157). -/
def retryHeld (s : State) : State := forEach (heldList s) retryLoad s

/-- In RUN mode, the retry that a decrease of the total draw calls for (R157). -/
def retryOnDecrease (before s : State) : State :=
  if s.inRun && decide (s.totalDraw < before.totalDraw) then retryHeld s else s

/-! ### The computation (R150 to R154) -/

/-- The scaled level of a fan of class 1 or 3 at scale k (R153). -/
def Fan.scaled (f : Fan) (k : Nat) : Nat :=
  let g := f.request * k / 256
  if f.cls = 1 then max f.floor g
  else if g < f.cfg.minRun then 0 else g

/-- The scaled level of a row at scale k (R153). -/
def Row.scaled (r : Row) (k : Nat) : Nat := r.cfg.base + (r.requested - r.cfg.base) * k / 256

/-- The fans of the inventory of one class, by channel. -/
def State.classFans (s : State) (cls : Nat) : Table Fan := s.fanLoads.filter fun p => decide (p.2.cls = cls)

/-- The extra of the fans of a class at scale k (R153). -/
def fanExtra (s : State) (cls k : Nat) : Nat :=
  sumOf (fun p => p.2.cfg.power (p.2.scaled k) - p.2.floorDraw) (s.classFans cls)

/-- The extra of the rows at scale k (R153). -/
def rowExtra (s : State) (k : Nat) : Nat :=
  sumOf (fun p => s.rowPower p.2 (p.2.scaled k) - s.rowFloorDraw p.2) s.rows

/-- The largest scale from 0 to `k` whose extra fits the budget (R153). -/
def largestScale (extra : Nat → Nat) (budget : Nat) : Nat → Nat
  | 0 => 0
  | k + 1 => if extra (k + 1) ≤ budget then k + 1 else largestScale extra budget k

/-- What a computation finds: floor total, remaining budget, scales (none: the supply is short, R151). -/
structure Division where
  floorTotal : Nat
  budget     : Nat
  scales     : Option (Nat × Nat × Nat)
deriving DecidableEq, Repr

/-- The floor total, and unless it reaches A the three classes taken in turn (R151, R153). -/
def divide (s : State) : Division :=
  let f := s.floorSum
  let a := s.allowance
  if a ≤ f then { floorTotal := f, budget := 0, scales := none }
  else
    let b := a - f
    let k1 := largestScale (fanExtra s 1) b 256
    let b1 := b - fanExtra s 1 k1
    let k2 := largestScale (rowExtra s) b1 256
    let b2 := b1 - rowExtra s k2
    let k3 := largestScale (fanExtra s 3) b2 256
    { floorTotal := f, budget := b2 - fanExtra s 3 k3, scales := some (k1, k2, k3) }

/-- The grant a division gives a fan: its floor in short supply, else its scaled level (R151, R153). -/
def Division.fanGrant (d : Division) (f : Fan) : Nat :=
  match d.scales with
  | none => f.floor
  | some (k1, _, k3) => f.scaled (if f.cls = 1 then k1 else k3)

/-- The grant a division gives a row. -/
def Division.rowGrant (d : Division) (r : Row) : Nat :=
  match d.scales with
  | none => r.cfg.base
  | some (_, k2, _) => r.scaled k2

/-- The grants in handing order: class 1 fans by channel, rows by number, class 3 fans by channel (R154). -/
def grantsOf (s : State) (d : Division) : List (Load × Nat) :=
  (s.classFans 1).map (fun p => (.fan p.1, d.fanGrant p.2)) ++
  (s.rows.map (fun p => (.row p.1, d.rowGrant p.2)) ++
   (s.classFans 3).map (fun p => (.fan p.1, d.fanGrant p.2)))

/-- The grant a load holds. -/
def storedGrant (s : State) : Load → Nat
  | .fan ch => ((s.fans.find ch).map (·.granted)).getD 0
  | .row n => ((s.rows.find n).map (·.granted)).getD 0

/-- Hands a grant to its load; one equal to the grant stored is handed only where every grant is (R154, R159). -/
def handGrant (all : Bool) (x : Load × Nat) (s : State) : State :=
  if all || decide (storedGrant s x.1 ≠ x.2) then
    match x.1 with
    | .fan ch => grantFan ch x.2 s
    | .row n => grantRow n x.2 s
  else s

/-- Judges the short flag after a computation and posts SUPPLY_SHORT on a change (R152). -/
def judgeShort (s : State) : State :=
  let f := s.supply.floorTotal
  let a := s.allowance
  let short := decide (a < f)
  let s1 := s.setSupply { s.supply with short := short }
  if short && !s.supply.short then post .supplyShort 1 (ceilDiv f 100) (a / 100) s1
  else if !short && s.supply.short then post .supplyShort 0 (ceilDiv f 100) (a / 100) s1
  else s1

/-- Records what a computation found (R151, R153). -/
def recordDivision (d : Division) (s : State) : State :=
  let k := d.scales.getD (0, 0, 0)
  s.setSupply { s.supply with floorTotal := d.floorTotal, budget := d.budget, k1 := k.1, k2 := k.2.1, k3 := k.2.2 }

/-- One computation, taken whole: divide, store and hand the grants, retry the held rises, judge the short flag (R150 to
R154). With `all` set every load is handed its grant, changed or not (R159, R160). -/
def compute (all : Bool) (s : State) : State :=
  let d := divide s
  judgeShort (retryHeld (forEach (grantsOf s d) (handGrant all) (recordDivision d s)))

/-! ### When a computation is called for (R150) -/

/-- What a computation reads of one load. -/
structure LoadInput where
  load      : Load
  cls       : Nat
  floor     : Nat
  request   : Nat
  floorDraw : Nat
  nodeFault : Bool
deriving DecidableEq, Repr

/-- The inputs of the computation: class, floor, request and node health of every load in the inventory (R150). -/
def loadInputs (s : State) : List LoadInput :=
  s.fanLoads.map (fun p => ⟨.fan p.1, p.2.cls, p.2.floor, p.2.request, p.2.floorDraw, false⟩) ++
  s.rows.map (fun p =>
    ⟨.row p.1, 2, p.2.cfg.base, p.2.requested, s.rowFloorDraw p.2, decide (s.nodeHealth p.2.cfg.node = .fault)⟩)

/-- Whether a computation's inputs, or A, have changed since `before` (R150). -/
def inputsChanged (before s : State) : Bool :=
  decide (loadInputs s ≠ loadInputs before) || decide (s.allowance ≠ before.allowance)

/-- The end of an event that began in `before`: in RUN mode the zone demands and classes are handed to the fans and, where
a load's class, floor, request or health, the inventory or A has changed, one computation is taken (R117, R126, R150). In
CONFIG mode nothing is handed and nothing computed (R159). -/
def settle (before s : State) : State :=
  if s.inRun then
    let s1 := handDemands s
    if inputsChanged before s1 then compute false s1 else s1
  else s

/-! ### Leaving the loads (R137, R146) -/

/-- A fan taken to FAULTED or ISOLATED: steps 1 and 2 of R137 and the grant of 0 it is handed on leaving the loads (R146). -/
def Fan.withdrawn (f : Fan) (state : FanState) : Fan :=
  { f with state := state, commanded := 0, granted := 0, rampHeld := false, timer := none }

/-- Takes a fan to FAULTED, posting FAN_FAULT with the state and the speed before (R137). -/
def fanToFault (ch : Nat) (s : State) : State :=
  match s.fans.find ch with
  | none => s
  | some f => post .fanFault ch f.state.code f.commanded (s.modFan ch fun f => f.withdrawn .faulted)

/-- A fan begins a reversal when its direction differs from its due direction (R134). -/
def beginReversal (ch : Nat) (s : State) : State :=
  match s.fans.find ch with
  | none => s
  | some f =>
    if s.inRun && decide (f.direction ≠ s.dueDirection f) &&
        (decide (f.state = .stopped) || decide (f.state = .accelerating) || decide (f.state = .steady)
          || decide (f.state = .decelerating)) then
      if 0 < f.commanded then s.modFan ch fun f => f.startDecel s.deckTime .reversingDown
      else s.modFan ch fun f =>
        { f with state := .reverseDwell, rampHeld := false, timer := some (Time.plus s.deckTime (f.cfg.dwell * 10)) }
    else s

end Sys2Proof.Machine
end

