-- ==== Sys2Proof/Machine/Census.lean ====
section
/-! DEFINITION. Row triggers (chapter 4) and the census unit: ramp filter and decoder, crossings, movements, census and
drift (chapter 2). -/

namespace Sys2Proof.Machine

/-! ### Row triggers (R77) -/

/-- A triggered row: active level requested, light timer started afresh (R77). -/
def Row.triggered (now : Time) (r : Row) : Row :=
  { r with requested := r.cfg.active, lightTimer := some (Time.plus now (r.cfg.holdTime * 10)) }

/-- Triggers a row in force (R77). -/
def triggerRow (n : Nat) (s : State) : State := s.modRow n (Row.triggered s.deckTime)

/-- Triggers each of several rows once (R77). -/
def triggerRows (rows : List Nat) (s : State) : State := forEach rows triggerRow s

/-- The root rows whose parent is a ramp pair (R77). -/
def rootRowsOf (s : State) (pair : Nat) : List Nat :=
  (s.rows.filter fun p => decide (p.2.cfg.parent = .pair pair)).map (·.1)

/-! ### Movements (R36) -/

/-- One movement in the current bucket, which stops at 65535 (R36). -/
def addMovement : List Nat → List Nat
  | [] => []
  | [x] => [min 65535 (x + 1)]
  | x :: rest => x :: addMovement rest

/-- One movement of a level; a level with no record in force takes none (R33, R36). -/
def movement (level : Nat) (s : State) : State := s.modLevel level fun l => { l with ring := addMovement l.ring }

/-! ### Drift (R42) -/

/-- The difference of two counts. -/
def distance (a b : Nat) : Nat := (a - b) + (b - a)

/-- The drift state of a level brought up to date with its L, S and drift limit (R42). -/
def Level.driftUpdated (now : Time) (present : Nat) (l : Level) : Level :=
  if l.cfg.driftLimit < distance l.count present then
    match l.drift with
    | .idle => { l with drift := .timing now }
    | .timing t => { l with drift := .timing t }
    | .reported => { l with drift := .reported }
  else { l with drift := .idle }

/-- Brings a level's drift state up to date (R42). -/
def updateDrift (level : Nat) (s : State) : State :=
  s.modLevel level (Level.driftUpdated s.deckTime (s.presentCount level))

/-- The deck time a level's drift timer expires at: its start plus the drift time (R42, R45). -/
def Level.driftExpiry (l : Level) : Option Time :=
  match l.drift with
  | .timing t => some (Time.plus t (l.cfg.driftTime * 10))
  | _ => none

/-- The expiry of a level's drift timer, if it has been reached: CENSUS_DRIFT, and the drift is REPORTED (R42). -/
def driftExpire (level : Nat) (s : State) : State :=
  match s.levels.find level with
  | none => s
  | some l =>
    if timerDue s.deckTime l.driftExpiry then
      post .censusDrift level l.count (s.presentCount level) (s.modLevel level fun l => { l with drift := .reported })
    else s

/-! ### The census (R40) -/

/-- The phase of a pair from its filtered levels (R26). -/
def phaseOf (a b : Bool) : Nat :=
  match a, b with
  | false, false => 0
  | true, false => 1
  | true, true => 2
  | false, true => 3

def RampPair.phase (p : RampPair) : Nat := phaseOf p.filteredA p.filteredB

/-- A pair at phase 0 with position 0 is idle (R26). -/
def RampPair.isIdle (p : RampPair) : Bool := decide (p.phase = 0) && decide (p.position = 0)

/-- Whether a pair bounds a level (R26). -/
def PairCfg.bounds (c : PairCfg) (level : Nat) : Bool := decide (c.upper = .level level) || decide (c.lower = level)

/-- Whether every defined pair that bounds a level is idle (R40). -/
def rampsIdle (s : State) (level : Nat) : Bool := s.pairs.all fun p => !p.2.cfg.bounds level || p.2.isIdle

/-- The census check of a level: a pending census is carried out when its ramps are idle: L takes S, the flag clears,
CENSUS_DONE is posted, and the drift state is brought up to date (R40). -/
def censusCheck (level : Nat) (s : State) : State :=
  match s.levels.find level with
  | none => s
  | some l =>
    if l.pending && rampsIdle s level then
      let now := s.presentCount level
      let s1 := s.modLevel level fun l => { l with count := now, pending := false }
      updateDrift level (post .censusDone level l.count now s1)
    else s

/-- Sets the census pending flag of a level. -/
def setPending (level : Nat) (s : State) : State := s.modLevel level fun l => { l with pending := true }

/-- What follows a change of a level's S: the drift state, and the census check where one is pending (R35). -/
def afterPresentChange (level : Nat) (s : State) : State := censusCheck level (updateDrift level s)

/-! ### Crossings (R31, R32, R34) -/

/-- A level count moved by one for a crossing of a pair; one that would leave 0 to 2047 stands, and CENSUS_LIMIT is posted (R34). -/
def countCrossing (pair level : Nat) (up : Bool) (s : State) : State :=
  match s.levels.find level with
  | none => s
  | some l =>
    if up then
      if l.count < 2047 then s.modLevel level fun l => { l with count := l.count + 1 }
      else post .censusLimit level l.count pair s
    else if 0 < l.count then s.modLevel level fun l => { l with count := l.count - 1 }
    else post .censusLimit level l.count pair s

/-- The levels a pair bounds, upper side first; STREET is none (R26). Where several levels are taken in turn this order is the
model's choice (log entry 38). -/
def PairCfg.boundedLevels (c : PairCfg) : List Nat :=
  match c.upper with
  | .street => [c.lower]
  | .level u => [u, c.lower]

/-- The level counts of a counted crossing (R32 step 1), each tested on its own (R34): the upper side first in both directions,
the model's choice of which CENSUS_LIMIT comes first where both stand at their limits (log entry 38). -/
def moveCounts (pair : Nat) (c : PairCfg) (down : Bool) (s : State) : State :=
  let s1 :=
    match c.upper with
    | .street => s
    | .level u => countCrossing pair u (!down) s
  countCrossing pair c.lower down s1

/-- A counted crossing: counts, movements, root rows triggered, drift states (R32 steps 1 to 4). -/
def crossing (pair : Nat) (c : PairCfg) (down : Bool) (s : State) : State :=
  let s1 := moveCounts pair c down s
  let s2 := forEach c.boundedLevels movement s1
  let s3 := triggerRows (rootRowsOf s2 pair) s2
  forEach c.boundedLevels updateDrift s3

/-- The return of a pair to phase 0: the passage is judged, the pair made idle, and a pending census of a level it bounds
is checked after any crossing has been counted (R31, R40). -/
def returnToIdle (pair : Nat) (s : State) : State :=
  match s.pairs.find pair with
  | none => s
  | some p =>
    let s1 := s.modPair pair fun p => { p with position := 0, spoiled := false }
    let s2 :=
      if p.spoiled then s1
      else if p.position = 4 then crossing pair p.cfg true s1
      else if p.position = -4 then crossing pair p.cfg false s1
      else s1
    forEach p.cfg.boundedLevels censusCheck s2

/-- The position after a step, kept within −8 to +8 (R29). -/
def stepPosition (p step : Int) : Int := max (-8) (min 8 (p + step))

/-- A change of the filtered levels of a pair: a step forward or back, or a jump, which sets the spoiled flag and posts
RAMP_GLITCH; at phase 0, the return to idle (R29, R30, R31). -/
def decoderStep (pair : Nat) (a b : Bool) (s : State) : State :=
  match s.pairs.find pair with
  | none => s
  | some p =>
    let old := p.phase
    let new := phaseOf a b
    let take := fun (q : Int) (spoil : Bool) =>
      s.modPair pair fun p => { p with filteredA := a, filteredB := b, position := q, spoiled := spoil }
    let s1 :=
      match (new + 4 - old) % 4 with
      | 1 => take (stepPosition p.position 1) p.spoiled
      | 3 => take (stepPosition p.position (-1)) p.spoiled
      | _ => post .rampGlitch pair old new (take p.position true)
    if new = 0 then returnToIdle pair s1 else s1

/-- The expiry of a pair's settle timer: raw levels that differ from the filtered ones are taken in one step (R28). -/
def settleExpire (pair : Nat) (s : State) : State :=
  match s.pairs.find pair with
  | none => s
  | some p =>
    if timerDue s.deckTime p.settle then
      let a := s.pins.rampA.getLsbD pair
      let b := s.pins.rampB.getLsbD pair
      let s1 := s.modPair pair fun p => { p with settle := none }
      if p.filteredA = a ∧ p.filteredB = b then s1 else decoderStep pair a b s1
    else s

/-- A ring with its oldest bucket dropped and a new current bucket at 0 (R37). -/
def advanceRing (ring : List Nat) : List Nat := ring.drop 1 ++ [0]

end Sys2Proof.Machine
end

