-- ==== Sys2Proof/Machine/Allocation.lean ====
section
/-! DEFINITION. The allocation unit: admin states, tickets, the guidance queue, the allocation pass, holds and their ends
(chapter 3). -/

namespace Sys2Proof.Machine

/-! ### Admin states (R46) -/

/-- A change of a bay's admin state, handed to the bay table: the counts follow, and LEVEL_FULL or LEVEL_OPEN is posted
where the level's non-staff offered total moves to or from 0 (R46). -/
def setAdmin (bay : Nat) (a : Admin) (s : State) : State :=
  match s.bays.find bay with
  | none => s
  | some b => levelCheck s (s.rowLevel b.cfg.row) (s.modBay bay fun b => { b with admin := a })

/-! ### Tickets (R47) -/

/-- A ticket is live while a request or a hold has it (R47). -/
def ticketLive (g : Guidance) (t : Nat) : Bool := g.queue.any (fun r => r.ticket == t) || g.holds.any (fun h => h.ticket == t)

/-- The number after `n`, 65535 being followed by 1 (R47). -/
def ticketAfter (n : Nat) : Nat := if 65535 ≤ n then 1 else n + 1

/-- The first candidate after `n` that is not live; `fuel` candidates are tried before the last is taken (R47: at most 96
numbers are live, so one more candidate than live numbers always suffices). -/
def nextTicket (g : Guidance) : Nat → Nat → Nat
  | 0, n => ticketAfter n
  | fuel + 1, n => if ticketLive g (ticketAfter n) then nextTicket g fuel (ticketAfter n) else ticketAfter n

/-- The ticket the allocation unit issues next (R47). -/
def issueTicket (g : Guidance) : Nat := nextTicket g (g.queue.length + g.holds.length) g.lastTicket

/-! ### The guidance queue (R48) -/

/-- A priority request is ACCESSIBLE or has its priority flag set (R48). -/
def Request.isPriority (r : Request) : Bool := decide (r.cls = 1) || r.priority

/-- A request placed in the queue: after the priority section, or at the tail (R48). -/
def enqueue (r : Request) (q : List Request) : List Request :=
  if r.isPriority then q.takeWhile Request.isPriority ++ r :: q.dropWhile Request.isPriority else q ++ [r]

/-- The position of a ticket in the queue, 1 at the front; 0 when it is not there. -/
def queuePosition (q : List Request) (t : Nat) : Nat :=
  match q.findIdx? (fun r => decide (r.ticket = t)) with
  | some i => i + 1
  | none => 0

/-- The request of a ticket. -/
def findRequest (q : List Request) (t : Nat) : Option Request := q.find? fun r => decide (r.ticket = t)

/-- The queue without a ticket. -/
def dropRequest (q : List Request) (t : Nat) : List Request := q.filter fun r => decide (r.ticket ≠ t)

/-- Takes a request out of the queue. -/
def removeRequest (t : Nat) (s : State) : State :=
  s.setGuidance { s.guidance with queue := dropRequest s.guidance.queue t }

/-! ### The hold list (R60) -/

/-- The order key of an expiry: its signed distance from the present deck time (R60, R186). -/
def expiryKey (now expiry : Time) : Int := (expiry - now).toInt

/-- Whether hold `h` stands before hold `x`: earlier expiry, or the lesser ticket at equal expiries (R60). -/
def holdBefore (now : Time) (h x : Hold) : Bool :=
  decide (expiryKey now h.expiry < expiryKey now x.expiry) ||
  (decide (expiryKey now h.expiry = expiryKey now x.expiry) && decide (h.ticket < x.ticket))

/-- A hold placed at the position its expiry and ticket give it (R60). -/
def insertHold (now : Time) (h : Hold) : List Hold → List Hold
  | [] => [h]
  | x :: rest => if holdBefore now h x then h :: x :: rest else x :: insertHold now h rest

/-- The hold of a ticket. -/
def findHold (l : List Hold) (t : Nat) : Option Hold := l.find? fun h => decide (h.ticket = t)

/-- Takes a hold off the hold list; its rows' path-hold counts and arrows follow from the list (R61, R84). -/
def removeHold (t : Nat) (s : State) : State :=
  s.setGuidance { s.guidance with holds := s.guidance.holds.filter fun h => decide (h.ticket ≠ t) }

/-! ### The allocation pass (R54 to R56) -/

/-- The rank code of a bay class for a request class: 0, 1, or 2 for none (R57). The sixteen entries stand request class by
request class: the model's choice (DEDUCED, log entry 44). -/
def rankOf (g : Guidance) (request bay : Nat) : Nat := g.classTable.getD (request * 4 + bay) 2

/-- The effective cost of a bay: route cost plus the penalty of its zone's stage, at most 65535 (R55). -/
def effectiveCost (s : State) (b : Bay) : Nat :=
  min 65535 (b.cfg.cost + s.guidance.penalties.getD (s.rowStage b.cfg.row) 0)

/-- A candidate for a request class: OPEN, VACANT, zone below stage 4, and a rank (R55). -/
def isCandidate (s : State) (cls : Nat) (b : Bay) : Bool :=
  b.isFree && decide (s.rowStage b.cfg.row < 4) && decide (rankOf s.guidance cls b.cfg.cls < 2)

/-- Rank, then effective cost: the order of choice (R55). -/
def choiceBefore (s : State) (cls : Nat) (x y : Nat × Bay) : Bool :=
  let rx := rankOf s.guidance cls x.2.cfg.cls
  let ry := rankOf s.guidance cls y.2.cfg.cls
  decide (rx < ry) || (decide (rx = ry) && decide (effectiveCost s x.2 < effectiveCost s y.2))

/-- The best of a list of candidates in rising bay number; an equal one of greater number does not replace it (R55). -/
def bestOf (s : State) (cls : Nat) : List (Nat × Bay) → Option (Nat × Bay)
  | [] => none
  | x :: rest =>
    match bestOf s cls rest with
    | none => some x
    | some y => if choiceBefore s cls y x then some y else some x

/-- The bay chosen for a request class (R55). -/
def chooseBay (s : State) (cls : Nat) : Option (Nat × Bay) :=
  bestOf s cls (s.bays.filter fun p => isCandidate s cls p.2)

/-- The hold made for a request and a bay (R56 step 2, R76). -/
def holdFor (s : State) (r : Request) (bay : Nat) (b : Bay) : Hold :=
  { ticket := r.ticket, bay := bay, station := r.station, cls := r.cls, level := s.rowLevel b.cfg.row,
    issued := s.deckTime, expiry := Time.plus s.deckTime (s.guidance.holdTime * 10), path := s.path b.cfg.row }

/-- Serves a request with a bay, in the six steps of R56; `own` is the ticket being answered by its own REQUEST_BAY (R49). -/
def serve (own : Option Nat) (r : Request) (bay : Nat) (b : Bay) (s : State) : State :=
  let h := holdFor s r bay b
  let s1 := setAdmin bay (.held r.ticket) s
  let s2 := s1.setGuidance
    { s1.guidance with holds := insertHold s1.deckTime h s1.guidance.holds, queue := dropRequest s1.guidance.queue r.ticket }
  let s3 := if own = some r.ticket then s2 else postTo r.station .bayAssigned r.ticket bay (h.level * 256 + b.cfg.row) s2
  triggerRows h.path (movement h.level s3)

/-- The pass over the requests as they stand when it begins, front to tail; it ends when the hold list is full (R55). -/
def passOver (own : Option Nat) : List Request → State → State
  | [], s => s
  | r :: rest, s =>
    if s.guidance.holds.length < 64 then
      match chooseBay s r.cls with
      | none => passOver own rest s
      | some (n, b) => passOver own rest (serve own r n b s)
    else s

/-- The allocation pass (R54, R55). -/
def allocationPassFor (own : Option Nat) (s : State) : State := passOver own s.guidance.queue s

/-- An allocation pass called for by anything but a REQUEST_BAY. -/
def allocationPass (s : State) : State := allocationPassFor none s

/-! ### The ends of holds (R61 to R66) -/

/-- The end of a hold: off the list, its bay to OPEN (or CLOSED, R66), its event posted to its station (R61 steps 1 to 4).
The pass of step 5 is the caller's. -/
def endHold (h : Hold) (after : Admin) (kind : EventKind) (a b : Nat) (s : State) : State :=
  postTo h.station kind h.ticket a b (setAdmin h.bay after (removeHold h.ticket s))

/-- HOLD_LAPSED with a reason: 0 TIME, 1 CANCELLED, 2 CLOSED, 3 CONFIG. -/
def lapseHold (h : Hold) (after : Admin) (reason : Nat) (s : State) : State :=
  endHold h after .holdLapsed h.bay reason s

/-- The hold met by substitution: of the holds of the row whose bays are VACANT, the earliest issued, the least ticket
where issue times are equal (R64). -/
def substituteFor (s : State) (row : Nat) : Option Hold :=
  let eligible := s.guidance.holds.filter fun h =>
    match s.bays.find h.bay with
    | some b => decide (b.cfg.row = row) && decide (b.sensed = .vacant)
    | none => false
  eligible.foldr
    (fun h best =>
      match best with
      | none => some h
      | some x =>
        let age := Time.since s.deckTime h.issued
        let ageX := Time.since s.deckTime x.issued
        if ageX < age then some h
        else if age = ageX then (if h.ticket ≤ x.ticket then some h else some x)
        else some x)
    none

/-- A bay becoming PRESENT as the allocation unit takes it: a held bay meets its hold (R62); an OPEN bay that was VACANT
may meet one by substitution (R64). A pass follows a hold that ends. -/
def takeArrival (bay : Nat) (b : Bay) (wasVacant : Bool) (s : State) : State :=
  match b.admin with
  | .held t =>
    match findHold s.guidance.holds t with
    | some h => allocationPass (endHold h .opened .holdMet bay bay s)
    | none => s
  | .opened =>
    if wasVacant && s.guidance.substitution then
      match substituteFor s b.cfg.row with
      | some h => allocationPass (endHold h .opened .holdMet bay h.bay s)
      | none => s
    else s
  | .claimed _ => s
  | .closed => s

/-- The request of a ticket lapses at its wait deadline (R50). -/
def waitExpire (t : Nat) (s : State) : State :=
  match findRequest s.guidance.queue t with
  | some r =>
    if Time.reached s.deckTime r.deadline then postTo r.station .requestLapsed t 0 r.lane (removeRequest t s) else s
  | none => s

/-- The hold of a ticket lapses at its expiry, and a pass is run (R63). -/
def holdExpire (t : Nat) (s : State) : State :=
  match findHold s.guidance.holds t with
  | some h =>
    if Time.reached s.deckTime h.expiry then allocationPass (lapseHold h .opened 0 s) else s
  | none => s

/-- ENTER_CONFIG empties the queue, front first, and then the hold list, earliest expiry first, with reason CONFIG (R73). -/
def emptyGuidance (s : State) : State :=
  let s1 := forEach s.guidance.queue (fun r s => postTo r.station .requestLapsed r.ticket 1 r.lane (removeRequest r.ticket s)) s
  forEach s1.guidance.holds (fun h s => lapseHold h .opened 3 s) s1

end Sys2Proof.Machine
end

