-- ==== Sys2Proof/Machine/Bays.lean ====
section
/-! DEFINITION. The bay table and the detector classifier: changes of sensed state, samples, learning, classification,
baseline tracking, noise and band changes (chapter 1). -/

namespace Sys2Proof.Machine

/-! ### Changes of sensed state (R17, R18) -/

/-- The bay events of a change, in the order of R18's table: BAY_ARRIVAL, BAY_DEPARTURE, PARKED_IN_CLOSED, BAY_UNKNOWN. -/
def postBayEvents (n : Nat) (b : Bay) (old new : Sensed) (cause : Nat) (s : State) : State :=
  let level := s.rowLevel b.cfg.row
  match new with
  | .present =>
    let s1 := post .bayArrival n b.cfg.row level s
    if b.admin = .closed then post .parkedInClosed n b.cfg.row level s1 else s1
  | .vacant => if old = .present then post .bayDeparture n b.cfg.row level s else s
  | .unknown => post .bayUnknown n cause b.cfg.node s

/-- What the census unit takes of a change: one movement between VACANT and PRESENT, and the change of S to or from
PRESENT (R17, R35, R36). -/
def censusOfChange (level : Nat) (old new : Sensed) (s : State) : State :=
  let s1 := if old ≠ .unknown ∧ new ≠ .unknown then movement level s else s
  if old = .present ∨ new = .present then afterPresentChange level s1 else s1

/-- What the allocation unit takes of a change: an arrival, or an OPEN bay becoming VACANT, which calls for a pass (R17, R54). -/
def allocationOfChange (n : Nat) (b : Bay) (old new : Sensed) (s : State) : State :=
  match new with
  | .present => takeArrival n b (decide (old = .vacant)) s
  | .vacant => if b.admin = .opened then allocationPass s else s
  | .unknown => s

/-- A change of a bay's sensed state, taken whole: time stamped, counts, bay events, row trigger, census, allocation, and
the computation the row's new request calls for (R17). -/
def senseChange (n : Nat) (new : Sensed) (cause : Nat) (s : State) : State :=
  match s.bays.find n with
  | none => s
  | some b =>
    let old := b.sensed
    let level := s.rowLevel b.cfg.row
    let s1 := s.modBay n fun b => { b with sensed := new, changedAt := some s.deckTime }
    let s2 := levelCheck s level (postBayEvents n b old new cause s1)
    let s3 := censusOfChange level old new (triggerRow b.cfg.row s2)
    settle s (allocationOfChange n b old new s3)

/-- Takes a change of sensed state if there is one. -/
def senseChangeIf (n : Nat) (old new : Sensed) (cause : Nat) (s : State) : State :=
  if old = new then s else senseChange n new cause s

/-! ### Learning (R5, R6) -/

/-- A bay entering learning (R5). -/
def Bay.enterLearning (b : Bay) : Bay :=
  { b with learning := true, learnProgress := 0, learnSum := 0, onRun := 0, offRun := 0, invalidRun := 0, window := [] }

/-- The fourth learning sample: new baseline and new sensed state from the mean and the reference (R6). -/
def learnOutcome (mean ref onThr : Nat) : Nat × Sensed :=
  if ref + onThr ≤ mean then (ref, .present) else (mean, .vacant)

/-- A valid sample of a learning bay (R6). -/
def learningSample (n : Nat) (b : Bay) (ref c : Nat) (s : State) : State :=
  if b.learnProgress + 1 < 4 then
    s.modBay n fun b =>
      { b with learnProgress := b.learnProgress + 1, learnSum := b.learnSum + c, lastCount := some c, invalidRun := 0 }
  else
    let out := learnOutcome ((b.learnSum + c) / 4) ref b.cfg.onThr
    let s1 := s.modBay n fun b =>
      { b with baseline := out.1, learning := false, learnProgress := 0, learnSum := 0, onRun := 0, offRun := 0,
               window := [], lastCount := some c, invalidRun := 0 }
    senseChangeIf n b.sensed out.2 0 s1

/-! ### Classification (R7 to R10) -/

/-- The new on run, off run and sensed state a deviation gives, from those before the sample (R7 to R10). -/
def classify (sensed : Sensed) (onRun offRun : Nat) (d onThr offThr : Int) : Nat × Nat × Sensed :=
  match sensed with
  | .vacant =>
    if onThr ≤ d then (if onRun + 1 = 3 then (0, 0, .present) else (onRun + 1, 0, .vacant)) else (0, 0, .vacant)
  | .unknown =>
    if onThr ≤ d then (if onRun + 1 = 3 then (0, 0, .present) else (onRun + 1, 0, .unknown))
    else if d < offThr then (if offRun + 1 = 5 then (0, 0, .vacant) else (0, offRun + 1, .unknown))
    else (0, 0, .unknown)
  | .present =>
    if d < offThr then (if offRun + 1 = 5 then (0, 0, .vacant) else (0, offRun + 1, .present)) else (0, 0, .present)

/-! ### Baseline tracking (R11) -/

/-- The tracking step for a deviation: floor(d / 16), made +1 for a difference of +1 to +15 (R11). -/
def trackStep (d : Int) : Int := if d / 16 = 0 ∧ d ≠ 0 then 1 else d / 16

/-- The baseline after the tracking of a sample inside the window |d| < floor(on threshold / 2) (R11). -/
def trackBaseline (baseline c onThr : Nat) : Nat :=
  let d : Int := (c : Int) - (baseline : Int)
  if d.natAbs < onThr / 2 then (max 0 (min 65535 ((baseline : Int) + trackStep d))).toNat else baseline

/-! ### Noise and band changes (R12 to R15) -/

/-- Whether an entry is jumpy: a last count was present and the change exceeds the jitter limit (R12). -/
def isJumpy (last : Option Nat) (c jitter : Nat) : Bool :=
  match last with
  | some l => decide (jitter < distance c l)
  | none => false

/-- A noise window with a new entry; a ninth removes the oldest (R12). -/
def windowWith (w : List Bool) (e : Bool) : List Bool := lastN 8 (w ++ [e])

/-- The jumpy entries of a window. -/
def jumpyCount (w : List Bool) : Nat := w.countP id

/-- The defined bays of a node address. -/
def State.baysOf (s : State) (node : Nat) : Table Bay := s.bays.filter fun p => decide (p.2.cfg.node = node)

/-- Changes every defined bay of a node. -/
def modBaysOf (node : Nat) (f : Bay → Bay) (s : State) : State :=
  { s with bays := s.bays.mapRecords fun _ b => if b.cfg.node = node then f b else b }

/-- Whether every defined bay of a node holds a reference for a band (R13, R15). -/
def bandCovered (s : State) (node band : Nat) : Bool :=
  (s.baysOf node).all fun p => (p.2.cfg.reference band).isSome

/-- The counted changes of a node less than 600.0 s old (R13). -/
def recentChanges (now : Time) (r : BandRecord) : Nat := r.changes.countP fun t => decide (Time.since now t < 6000)

/-- The first covered band after the current one, in cyclic order (R13). -/
def nextBand (s : State) (node band : Nat) : Option Nat :=
  [(band + 1) % 4, (band + 2) % 4, (band + 3) % 4].find? fun k => bandCovered s node k

/-- The pending band change of a node (R169). -/
def State.pendingBand (s : State) (node : Nat) : Option PendingBand := s.loop.pendingBands.find node

/-- Makes a band change pending; it replaces any pending before it (R169). -/
def makePending (node : Nat) (p : PendingBand) (s : State) : State :=
  s.setLoop { s.loop with pendingBands := s.loop.pendingBands.put node p }

/-- A band change asked for by a bay is settled for its node: limited, made pending at the first covered band, or not
possible; NODE_NOISY where none is made; the node's windows are emptied either way (R13). -/
def requestBandChange (node : Nat) (s : State) : State :=
  let r := s.bandRecord node
  let s1 :=
    if 3 ≤ recentChanges s.deckTime r then post .nodeNoisy node r.band 1 s
    else
      match nextBand s node r.band with
      | some k => makePending node { counted := true, band := k } s
      | none => post .nodeNoisy node r.band 0 s
  modBaysOf node (fun b => { b with window := [] }) s1

/-- The acknowledgement of a SET_BAND: a counted change sets the band, is listed and posts BAND_CHANGED (R14); a reset sets
band 0 and does neither (R15). Either puts every defined bay of the node into learning. -/
def acknowledgeBand (node : Nat) (p : PendingBand) (s : State) : State :=
  let r := s.bandRecord node
  if p.counted then
    let r1 : BandRecord := { band := p.band, changes := lastN 3 (r.changes ++ [s.deckTime]) }
    let s1 := { s with bands := s.bands.putD node r1 BandRecord.fresh }
    post .bandChanged node p.band r.band (modBaysOf node Bay.enterLearning s1)
  else
    let s1 := { s with bands := s.bands.putD node { r with band := 0 } BandRecord.fresh }
    modBaysOf node Bay.enterLearning s1

/-! ### Samples (R2 to R4, R12) -/

/-- An invalid sample (R3): the third in a row takes a bay that is not UNKNOWN to UNKNOWN. -/
def invalidSample (n : Nat) (b : Bay) (s : State) : State :=
  let run := min 3 (b.invalidRun + 1)
  if run = 3 ∧ b.sensed ≠ .unknown then
    senseChange n .unknown 0 (s.modBay n fun b => { b with invalidRun := run, onRun := 0, offRun := 0, window := [] })
  else s.modBay n fun b => { b with invalidRun := run }

/-- A bay after a valid sample outside learning: runs, baseline, last count and noise window (R7 to R12). A sample of a bay
that was VACANT and stays so is tracked and enters the window. -/
def Bay.sampled (jitter : Nat) (c : Nat) (b : Bay) : Bay :=
  let d : Int := (c : Int) - (b.baseline : Int)
  let out := classify b.sensed b.onRun b.offRun d b.cfg.onThr b.cfg.offThr
  let stays := decide (b.sensed = .vacant) && decide (out.2.2 = .vacant)
  { b with
    onRun := out.1
    offRun := out.2.1
    invalidRun := 0
    lastCount := some c
    baseline := if stays then trackBaseline b.baseline c b.cfg.onThr else b.baseline
    window :=
      if stays then windowWith b.window (isJumpy b.lastCount c jitter)
      else if b.sensed = .vacant then [] else b.window }

/-- The sensed state a valid sample outside learning leads to (R7). -/
def Bay.sampleState (c : Nat) (b : Bay) : Sensed :=
  (classify b.sensed b.onRun b.offRun ((c : Int) - (b.baseline : Int)) b.cfg.onThr b.cfg.offThr).2.2

/-- A valid sample of a bay that is not learning: classification, tracking, last count, noise window and noise test, and
the change of sensed state where there is one (R2, R7 to R12). -/
def classifiedSample (n : Nat) (b : Bay) (c : Nat) (s : State) : State :=
  let b1 := b.sampled s.jitter c
  let new := b.sampleState c
  let s1 := s.modBay n fun _ => b1
  if new ≠ b.sensed then senseChange n new 0 s1
  else if b.sensed = .vacant ∧ 4 ≤ jumpyCount b1.window then requestBandChange b.cfg.node s1
  else s1

/-- One sample of a bay: the invalid and reference tests, then learning or classification (R2 to R4). -/
def baySample (n : Nat) (entry : Option Nat) (s : State) : State :=
  match s.bays.find n with
  | none => s
  | some b =>
    match entry, b.cfg.reference (s.bandRecord b.cfg.node).band with
    | some c, some ref => if b.learning then learningSample n b ref c s else classifiedSample n b c s
    | _, _ => invalidSample n b s

/-- The defined bay on a channel of a node (R1: the count of a channel with none is discarded). -/
def bayAt (s : State) (node channel : Nat) : Option Nat :=
  (s.bays.find? fun p => decide (p.2.cfg.node = node) && decide (p.2.cfg.channel = channel)).map (·.1)

/-- The entries of a POLL_BAYS reply taken as samples, in ascending channel order (R2). -/
def takeSamples (node : Nat) : Nat → List (Option Nat) → State → State
  | _, [], s => s
  | ch, e :: rest, s =>
    let s1 :=
      match bayAt s node ch with
      | some n => baySample n e s
      | none => s
    takeSamples node (ch + 1) rest s1

/-- What a bay node's FAULT does to one of its bays (R16). -/
def bayNodeFault (n : Nat) (s : State) : State :=
  match s.bays.find n with
  | none => s
  | some b =>
    let s1 := s.modBay n fun b =>
      { b with onRun := 0, offRun := 0, invalidRun := 0, window := [], learnProgress := 0, learnSum := 0 }
    senseChangeIf n b.sensed .unknown 1 s1

/-- A bay node entering FAULT takes each of its defined bays (R16), in rising bay number: the model's choice (log entry 38). -/
def nodeFaultBays (node : Nat) (s : State) : State := forEach (s.baysOf node).numbers bayNodeFault s

end Sys2Proof.Machine
end

