-- ==== Sys2Proof/Machine/Air.lean ====
section
/-! DEFINITION. The air quality unit: gas replies and head health, zone values, stages, FAILSAFE and overrides (chapter 5). -/

namespace Sys2Proof.Machine

/-! ### Conversion and health of a reply (R97, R98) -/

/-- The converted value of a gas reading: floor(max(0, raw − offset) × gain / 4096), clamped; the clamp maximum when
saturated (R97). -/
def convertGas (raw offset gain limit : Nat) (saturated : Bool) : Nat :=
  if saturated then limit else min limit ((raw - offset) * gain / 4096)

/-- The health a reply gives a head (R98). -/
def healthOfFlags (f : GasFlags) : HeadHealth :=
  if f.sensorFault then .fault else if f.warmup then .warmup else .valid

/-- The values of a reply that makes its head VALID (R97). -/
def HeadCfg.convert (c : HeadCfg) (r : RawReading) (now : Time) : HeadValues :=
  { co := convertGas r.co c.coOffset c.coGain 1000 r.flags.satCo
    no2 := convertGas r.no2 c.no2Offset c.no2Gain 500 r.flags.satNo2
    time := now }

/-- A head after a reply: raw readings and flags stored, health from the flags, values where it is VALID (R96 steps 1, 2). -/
def Head.replied (now : Time) (r : RawReading) (h : Head) : Head :=
  { h with
    raw := some r
    health := healthOfFlags r.flags
    values := if healthOfFlags r.flags = .valid then some (h.cfg.convert r now) else h.values }

/-! ### Stages (R106 to R109) -/

/-- The exit threshold of an entry threshold: floor(E × (100 − H) / 100) (R106). -/
def exitThreshold (e hysteresis : Nat) : Nat := e * (100 - hysteresis) / 100

/-- The entry test for a stage (R106). -/
def entryTest (t : StageTable) (z : Zone) (k : Nat) : Bool :=
  decide ((t.row k).coMean ≤ z.coMean) || decide ((t.row k).coInst ≤ z.coInst) || decide ((t.row k).no2Inst ≤ z.no2Inst)

/-- The holding test for a stage (R106). -/
def holdingTest (t : StageTable) (z : Zone) (k : Nat) : Bool :=
  decide (exitThreshold (t.row k).coMean t.hysteresis ≤ z.coMean) ||
  decide (exitThreshold (t.row k).coInst t.hysteresis ≤ z.coInst) ||
  decide (exitThreshold (t.row k).no2Inst t.hysteresis ≤ z.no2Inst)

/-- The highest stage above the present one whose entry test passes, if any (R107). -/
def highestEntry (t : StageTable) (z : Zone) : Option Nat :=
  [4, 3, 2, 1].find? fun k => decide (z.stage < k) && entryTest t z k

/-- The levels a zone has rows on, each once. -/
def zoneLevels (s : State) (zone : Nat) : List Nat :=
  (List.range 8).filter fun lv => s.rows.any fun p => decide (p.2.cfg.zone = zone) && decide (p.2.cfg.level = lv)

/-- A change of a zone's stage, taken whole: stored and posted, handed to the bay table where it crosses between 3 and 4,
and to the allocation unit, where a fall from 4 to 3 calls for a pass (R109, R20, R54). -/
def changeStage (zone new : Nat) (s : State) : State :=
  match s.zones.find zone with
  | none => s
  | some z =>
    let s1 := post .stageChanged zone new z.stage (s.modZone zone fun z => { z with stage := new })
    let s2 := forEach (zoneLevels s zone) (levelCheck s) s1
    if z.stage = 4 ∧ new = 3 then allocationPass s2 else s2

/-- The evaluation of a zone: a stage rise at once, or a dwell started or cancelled; a FAILSAFE zone is not evaluated (R107). -/
def evaluateZone (zone : Nat) (s : State) : State :=
  match s.zones.find zone with
  | none => s
  | some z =>
    if z.failsafe then s
    else
      match highestEntry s.stageTable z with
      | some k => changeStage zone k (s.modZone zone fun z => { z with dwell := none })
      | none =>
        if 1 ≤ z.stage then
          if holdingTest s.stageTable z z.stage then s.modZone zone fun z => { z with dwell := none }
          else if z.dwell.isSome then s
          else s.modZone zone fun z => { z with dwell := some (Time.plus s.deckTime (s.stageTable.dwell * 10)) }
        else s

/-- The expiry of a zone's dwell timer: the stage falls by one and the zone is evaluated again (R108). -/
def dwellExpire (zone : Nat) (s : State) : State :=
  match s.zones.find zone with
  | none => s
  | some z =>
    if timerDue s.deckTime z.dwell then
      evaluateZone zone (changeStage zone (z.stage - 1) (s.modZone zone fun z => { z with dwell := none }))
    else s

/-! ### Zone values and FAILSAFE (R102, R111, R112) -/

/-- The largest CO and NO2 of usable heads (R102). -/
def instValues (heads : List Head) : Nat × Nat :=
  (maxOf (heads.map fun h => (h.values.map (·.co)).getD 0), maxOf (heads.map fun h => (h.values.map (·.no2)).getD 0))

/-- Brings a zone's instantaneous values and FAILSAFE state up to date: with no usable head the values stand and the zone
is in FAILSAFE; with one it leaves FAILSAFE (R102, R111, R112). -/
def refreshZone (zone : Nat) (s : State) : State :=
  match s.zones.find zone with
  | none => s
  | some z =>
    let heads := s.usableHeads zone
    if heads.isEmpty then
      if z.failsafe then s
      else post .zoneFailsafe zone 1 z.stage (s.modZone zone fun z => { z with failsafe := true, dwell := none })
    else
      let s1 :=
        if z.failsafe then post .zoneFailsafe zone 0 z.stage (s.modZone zone fun z => { z with failsafe := false }) else s
      let v := instValues heads
      s1.modZone zone fun z => { z with coInst := v.1, no2Inst := v.2 }

/-- One sample of a zone's minute accumulators, 32 bits each (R103). -/
def accumulate (zone : Nat) (s : State) : State :=
  s.modZone zone fun z =>
    { z with coSum := (z.coSum + z.coInst) % 4294967296, no2Sum := (z.no2Sum + z.no2Inst) % 4294967296,
             samples := (z.samples + 1) % 4294967296 }

/-- Posts HEAD_STATE where a head's health has changed (R100). -/
def postHeadState (head : Nat) (old new : HeadHealth) (s : State) : State :=
  if old = new then s else post .headState head new.code old.code s

/-- A gas reply taken whole by its head and zone (R96); an address whose head has no record in force discards it (R95). -/
def gasReply (head : Nat) (r : RawReading) (s : State) : State :=
  match s.heads.find head with
  | none => s
  | some h =>
    let new := healthOfFlags r.flags
    let s1 := postHeadState head h.health new (s.modHead head (Head.replied s.deckTime r))
    let s2 := refreshZone h.cfg.zone s1
    let s3 := if new = .valid then accumulate h.cfg.zone s2 else s2
    settle s (evaluateZone h.cfg.zone s3)

/-- The health of a head after a change of its node's health other than to OK (R99). -/
def headAfterNode (node : NodeHealth) (h : HeadHealth) : HeadHealth :=
  match node with
  | .fault => .fault
  | .missing => if h = .valid then .stale else h
  | .ok => h

/-- A change of a gas head node's health, with what follows a change of the head's own (R99, R100). -/
def headNodeChange (head : Nat) (node : NodeHealth) (s : State) : State :=
  match s.heads.find head with
  | none => s
  | some h =>
    let new := headAfterNode node h.health
    if new = h.health then s
    else
      let s1 := postHeadState head h.health new (s.modHead head fun h => { h with health := new })
      settle s (evaluateZone h.cfg.zone (refreshZone h.cfg.zone s1))

/-! ### The minute timer (R104) -/

/-- A value pushed at the newest end of a ring of at most 15 (R104). -/
def pushRing (ring : List Nat) (v : Nat) : List Nat := lastN 15 (ring ++ [v])

/-- The minute value of a gas: floor(sum / count), or the instantaneous value with no sample (R104). -/
def minuteValue (sum count inst : Nat) : Nat := if count = 0 then inst else sum / count

/-- A zone at the minute timer's expiry: minute values pushed unless it is FAILSAFE, accumulators cleared (R104). -/
def Zone.minute (z : Zone) : Zone :=
  let cleared := { z with coSum := 0, no2Sum := 0, samples := 0 }
  if z.failsafe then cleared
  else
    { cleared with
      coRing := pushRing z.coRing (minuteValue z.coSum z.samples z.coInst)
      no2Ring := pushRing z.no2Ring (minuteValue z.no2Sum z.samples z.no2Inst) }

/-! ### Overrides (R113, R114) -/

/-- The expiry of a zone's override (R114). -/
def overrideExpire (zone : Nat) (s : State) : State :=
  match s.zones.find zone with
  | none => s
  | some z =>
    match z.override with
    | none => s
    | some o =>
      if Time.reached s.deckTime o.expires then
        post .overrideEnded zone 0 o.demand (s.modZone zone fun z => { z with override := none })
      else s

end Sys2Proof.Machine
end

