-- ==== Sys2Proof/Machine/FieldLoop.lean ====
section
/-! DEFINITION. The field loop controller: the walk, building a transaction, judging its outcome, node health, the
delivery of replies, and the two drains (chapter 8; the contents of writes from section 4.7). -/

namespace Sys2Proof.Machine

/-! ### What a transaction carries (R163, R85 to R87) -/

/-- The row in force of a row node address (check 8 of COMMIT leaves at most one). -/
def rowOfNode (s : State) (address : Nat) : Option (Nat × Row) := s.rows.find? fun p => decide (p.2.cfg.node = address)

/-- The row sign value: the row's non-staff offered count, at most 99 (R85). -/
def State.rowSign (s : State) (row : Nat) : Nat := min 99 (nonStaff (s.offeredCount row))

/-- The values of a ROW_WRITE: those of the row of the address, or 100 %, blank and clear where it has none (R85, R87). -/
def rowWrite (s : State) (address : Nat) : FieldRequest :=
  match rowOfNode s address with
  | some (n, r) => .rowWrite r.commanded (some (s.rowSign n)) (s.arrow n)
  | none => .rowWrite 100 none false

/-- Whether a level names a sign node. -/
def LevelCfg.names (c : LevelCfg) (address : Nat) : Bool := decide (c.sign1 = some address) || decide (c.sign2 = some address)

/-- The sign figure of a level: its non-staff offered total, at most 999, or FULL when it is 0 (R86). -/
def State.signFigure (s : State) (level : Nat) : Option Nat :=
  if s.levelOffered level = 0 then none else some (min 999 (s.levelOffered level))

/-- The figure of a SIGN_WRITE: that of the least level in force naming the address, or blank (R86, R87). -/
def signWrite (s : State) (address : Nat) : FieldRequest :=
  match s.levels.find? fun p => p.2.cfg.names address with
  | some (n, _) => .signWrite (some (s.signFigure n))
  | none => .signWrite none

/-- The request built for an address from the state as it stands (R163). -/
def buildRequest (s : State) (address : Nat) : FieldRequest :=
  if address < 128 then
    match s.pendingBand address with
    | some p => .setBand p.band
    | none => .pollBays
  else if address < 160 then .pollGas
  else if address < 224 then rowWrite s address
  else signWrite s address

/-- The function byte and what follows it in a request (section 9.8). -/
def FieldRequest.body : FieldRequest → List Byte
  | .pollBays => [0x01#8]
  | .setBand band => 0x02#8 :: leBytes 1 band
  | .pollGas => [0x03#8]
  | .rowWrite level sign arrow => 0x04#8 :: (leBytes 1 level ++ leBytes 1 (sign.getD 0xFF) ++ leBytes 1 (if arrow then 1 else 0))
  | .signWrite figure =>
    0x05#8 :: leBytes 2 (match figure with
      | none => 0xFFFF
      | some none => 0xFFFE
      | some (some n) => n)

/-- A request frame as its bytes (section 9.8). -/
def requestFrame (address : Nat) (r : FieldRequest) : List Byte := withCrc (BitVec.ofNat 8 address :: r.body)

/-- The characters a frame is sent as: the marker bit 1 on the first, the node address, 0 on every later one, and each with its
stop bit at mark (R161). -/
def frameChars : List Byte → List FieldChar
  | [] => []
  | b :: rest =>
    { data := b, marker := true, stopOk := true } :: rest.map fun x => { data := x, marker := false, stopOk := true }

/-- The characters of a request, in the order they are sent back to back (R161). -/
def requestChars (address : Nat) (r : FieldRequest) : List FieldChar := frameChars (requestFrame address r)

/-- The eleven levels of a character on the line, in time order, mark high: the start bit at space, the eight data bits with
the least significant first, the marker bit, and the stop bit (R161). -/
def charLevels (c : FieldChar) : List Bool :=
  false :: ((List.range 8).map c.data.getLsbD ++ [c.marker, c.stopOk])

/-- The reply characters a kind calls for (section 9.8). -/
def FieldRequest.replyLength : FieldRequest → Nat
  | .pollBays => 20
  | .setBand _ => 4
  | .pollGas => 8
  | .rowWrite _ _ _ => 3
  | .signWrite _ => 3

/-! ### The walk (R162) -/

/-- The position of the first entry: 1, or 0 for an empty list. -/
def firstEntry (list : List Nat) : Nat := if list.isEmpty then 0 else 1

/-- While RUNNING with a list that is not empty, begins the transaction of the next entry (R162, R163). -/
def startTransaction (s : State) : State :=
  if s.loop.state = .running ∧ s.loop.pollList ≠ [] then
    let address := s.loop.pollList.getD (s.loop.next - 1) 0
    s.setLoop
      { s.loop with current := some { address := address, request := buildRequest s address, sent := false, received := [] } }
  else s

/-- The position after the next entry; after the last the walk goes back to the first (R162). -/
def FieldLoop.advanced (l : FieldLoop) : FieldLoop :=
  { l with next := if l.pollList.isEmpty then 0 else if l.next < l.pollList.length then l.next + 1 else 1 }

/-! ### Outcomes (R165) -/

/-- Whether the characters of a reply are framed as R161 lays down: stop bits at mark, the marker bit on the first alone. -/
def framedWell : List FieldChar → Bool
  | [] => true
  | c :: rest => c.marker && c.stopOk && rest.all fun x => !x.marker && x.stopOk

/-- The outcome of an ended transaction, by the tests of R165 in their order. -/
def judge (t : Transaction) (chars : List FieldChar) : FieldOutcome :=
  if chars.length < t.request.replyLength then .noReply
  else if !framedWell chars then .frameError
  else if !crcGood (chars.map (·.data)) then .crcError
  else if (chars.map (·.data.toNat)).headD 0 ≠ t.address then .wrongAddress
  else .ok

/-! ### Node health (R167, R168) -/

/-- A health record after an outcome (R167). -/
def HealthRecord.after (now : Time) (outcome : FieldOutcome) (r : HealthRecord) : HealthRecord :=
  if outcome = .ok then { health := .ok, failures := 0, lastOutcome := some .ok, lastOk := some now }
  else
    let f := min 65535 (r.failures + 1)
    { r with health := if f < 3 then .missing else .fault, failures := f, lastOutcome := some outcome }

/-- NODE_STATE where a change of health enters or leaves FAULT (R168). -/
def postNodeState (address : Nat) (old : HealthRecord) (new : HealthRecord) (outcome : FieldOutcome) (s : State) : State :=
  if new.health = .fault ∧ old.health ≠ .fault then post .nodeState address 1 outcome.code s
  else if old.health = .fault ∧ new.health ≠ .fault then post .nodeState address 0 old.failures s
  else s

/-- The hand-over of a change of health to the owner of the node (R167). The change of a gas head node back to OK is taken
with the reply (R98). -/
def handHealth (address : Nat) (old new : NodeHealth) (before s : State) : State :=
  if old = new then s
  else if address < 128 then (if new = .fault then nodeFaultBays address s else s)
  else if address < 160 then (if new = .ok then s else headNodeChange (address - 128) new s)
  else if address < 224 then (if new = .fault ∨ old = .fault then settle before (retryOnDecrease before s) else s)
  else s

/-- The update of a node's health record from an outcome, NODE_STATE, and the hand-over (R167, R168). -/
def recordOutcome (address : Nat) (outcome : FieldOutcome) (s : State) : State :=
  let old := s.nodeRecord address
  let new := old.after s.deckTime outcome
  let s1 := s.setLoop { s.loop with health := s.loop.health.putD address new HealthRecord.fresh }
  handHealth address old.health new.health s (postNodeState address old new outcome s1)

/-! ### Delivery (R166) -/

/-- The eight channel entries of a POLL_BAYS reply: absent where its invalid mark is set (section 9.8). -/
def bayEntries (bytes : List Byte) : List (Option Nat) :=
  let marks := bytes.getD 1 0#8
  (List.range 8).map fun ch => if marks.getLsbD ch then none else some (leNat ((bytes.drop (2 + 2 * ch)).take 2))

/-- The reading a POLL_GAS reply carries: one with a raw value above 4095 is taken as a SENSOR_FAULT (R165). That the flags the
head record then stores have SENSOR_FAULT set, the others as received, is the model's choice (DEDUCED, log entry 45); the raw
value stored is free (log entry 21). -/
def gasReading (bytes : List Byte) : RawReading :=
  let co := leNat ((bytes.drop 1).take 2)
  let no2 := leNat ((bytes.drop 3).take 2)
  let flags := bytes.getD 5 0#8
  let outOfRange := decide (4095 < co) || decide (4095 < no2)
  let kept := fun raw => if raw ≤ 4095 then raw else Config.storedOutOfRangeReading raw
  { co := kept co, no2 := kept no2,
    flags := { satCo := flags.getLsbD 0, satNo2 := flags.getLsbD 1, warmup := flags.getLsbD 2,
               sensorFault := flags.getLsbD 3 || outOfRange } }

/-- The reply to a SET_BAND: the band sent acknowledges the pending change, which is cleared and handed to the classifier;
another band leaves it pending (R166). -/
def bandReply (node sent : Nat) (bytes : List Byte) (s : State) : State :=
  match s.pendingBand node with
  | none => s
  | some p =>
    if (bytes.getD 1 0#8).toNat = sent then
      acknowledgeBand node p (s.setLoop { s.loop with pendingBands := s.loop.pendingBands.erase node })
    else s

/-- The delivery of the reply of a transaction that ended OK (R166). -/
def deliverReply (t : Transaction) (bytes : List Byte) (s : State) : State :=
  match t.request with
  | .pollBays => takeSamples t.address 0 (bayEntries bytes) s
  | .setBand band => bandReply t.address band bytes s
  | .pollGas => gasReply (t.address - 128) (gasReading bytes) s
  | .rowWrite _ _ _ => s
  | .signWrite _ => s

/-! ### The ends of transactions and drains (R164, R170, R171) -/

/-- The end of a transaction in the walk: judged, its health recorded, delivered when OK, and the walk moves on (R164). -/
def endTransaction (t : Transaction) (chars : List FieldChar) (s : State) : State :=
  let outcome := judge t chars
  let s1 := recordOutcome t.address outcome (s.setLoop { s.loop with current := none })
  let s2 := if outcome = .ok then deliverReply t (chars.map (·.data)) s1 else s1
  startTransaction (s2.setLoop s2.loop.advanced)

/-- The end of a drain: RUNNING in RUN mode, from the entry standing, or STOPPED in CONFIG (R170, R171). -/
def endDrain (s : State) : State :=
  startTransaction (s.setLoop { s.loop with state := if s.inRun then .running else .stopped, current := none })

/-- The end of the transaction in flight with the characters received (R164); in a drain nothing is judged (R170). -/
def finishTransaction (chars : List FieldChar) (s : State) : State :=
  match s.loop.current with
  | none => s
  | some t => if s.loop.state = .running then endTransaction t chars s else endDrain s

/-- ENTER_CONFIG stops the walk: DRAINING while a transaction is in flight, STOPPED at once with none (R170), also during the
drain of a soft restart (DEDUCED, log entry 24). -/
def stopWalk (s : State) : State :=
  s.setLoop { s.loop with state := if s.loop.current.isSome then .draining else .stopped }

/-- A soft restart cuts the transaction in flight short and waits for a quiet line; the walk will resume from the first
entry (R171). With no transaction in flight there is no drain (DEDUCED, log entry 40). -/
def cutShort (s : State) : State :=
  s.setLoop
    { s.loop with
      next := firstEntry s.loop.pollList
      current := none
      state := if s.loop.current.isSome then .draining else s.loop.state }

end Sys2Proof.Machine
end

