-- ==== Sys2Proof/Machine/Operands.lean ====
section
/-! DEFINITION. The operands of the commands: the fields of DEFINE with their absent values, defaults and ranges (R188 and
the configuration tables), and the range checks and clamps of the other commands. -/

namespace Sys2Proof.Machine

/-! ### Fields of DEFINE (R188) -/

/-- A 16-bit field given as all ones is its default (R188). -/
def orDefault (d v : Nat) : Nat := if v = 0xFFFF then d else v

/-- A 16-bit field given as all ones is absent (R188). -/
def orAbsent (v : Nat) : Option Nat := if v = 0xFFFF then none else some v

/-- Whether a value lies in a range, both ends included. -/
def within (lo hi x : Nat) : Bool := decide (lo ≤ x) && decide (x ≤ hi)

/-- Whether an optional value is absent or lies in a range. -/
def withinIf (lo hi : Nat) : Option Nat → Bool
  | none => true
  | some x => within lo hi x

/-- A bay record from its fields (section 1.1, R1). -/
def defineBay : List Nat → Option BayCfg
  | [row, cls, node, channel, cost, on, off, r0, r1, r2, r3] =>
    let c : BayCfg :=
      { row := row, cls := orDefault 0 cls, node := node, channel := channel, cost := cost, onThr := orDefault 400 on,
        offThr := orDefault 250 off, ref0 := orAbsent r0, ref1 := orAbsent r1, ref2 := orAbsent r2, ref3 := orAbsent r3 }
    if within 0 63 c.row && within 0 3 c.cls && within 0 127 c.node && within 0 7 c.channel && within 50 8000 c.onThr &&
        within 20 (c.onThr - 1) c.offThr then some c else none
  | _ => none

/-- The upper side of a pair as it is read and given: STREET is 0x00FF (section 2.1). -/
def Side.code : Side → Nat
  | .street => 0x00FF
  | .level n => n

/-- A ramp pair record from its fields (section 2.1, R27). -/
def definePair : List Nat → Option PairCfg
  | [upper, lower] =>
    if within 0 7 lower then
      if upper = 0x00FF then some { upper := .street, lower := lower }
      else if within 0 7 upper then some { upper := .level upper, lower := lower }
      else none
    else none
  | _ => none

/-- A level record from its fields, with the traffic range table it has (section 2.2, R33). -/
def defineLevel (traffic : List (Option TrafficRange)) : List Nat → Option LevelCfg
  | [limit, time, weight, sign1, sign2] =>
    let c : LevelCfg :=
      { driftLimit := orDefault 15 limit, driftTime := orDefault 600 time, weight := orDefault 4 weight,
        sign1 := orAbsent sign1, sign2 := orAbsent sign2, traffic := traffic }
    if within 1 200 c.driftLimit && within 60 3600 c.driftTime && within 0 15 c.weight && withinIf 224 239 c.sign1 &&
        withinIf 224 239 c.sign2 then some c else none
  | _ => none

/-- The parent of a row as it is given: a row number, or 0x0100 plus a pair number (section 4.1). -/
def parentOf (v : Nat) : Option Parent :=
  if v ≤ 63 then some (.row v) else if within 0x0100 0x010F v then some (.pair (v - 0x0100)) else none

/-- The parent of a row as it is read. -/
def Parent.code : Parent → Nat
  | .row n => n
  | .pair n => 0x0100 + n

/-- A row record from its fields (section 4.1, R75). -/
def defineRow : List Nat → Option RowCfg
  | [level, zone, parent, node, rated, base, active, hold] =>
    match parentOf parent with
    | none => none
    | some p =>
      let c : RowCfg :=
        { level := level, zone := zone, parent := p, node := node, rated := rated, base := orDefault 30 base,
          active := orDefault 100 active, holdTime := orDefault 120 hold }
      if within 0 7 c.level && within 0 11 c.zone && within 160 223 c.node && within 0 20000 c.rated &&
          within 10 100 c.base && within c.base 100 c.active && within 30 1800 c.holdTime then some c else none
  | _ => none

/-- A gas head record from its fields (section 5.1, R95). -/
def defineHead : List Nat → Option HeadCfg
  | [zone, coOffset, coGain, no2Offset, no2Gain] =>
    let c : HeadCfg :=
      { zone := zone, coOffset := orDefault 0 coOffset, coGain := orDefault 4096 coGain,
        no2Offset := orDefault 0 no2Offset, no2Gain := orDefault 4096 no2Gain }
    if within 0 11 c.zone && within 0 4095 c.coOffset && within 1 8191 c.coGain && within 0 4095 c.no2Offset &&
        within 1 8191 c.no2Gain then some c else none
  | _ => none

/-- A zone record from its fields (section 5.3, R101). -/
def defineZone : List Nat → Option ZoneCfg
  | [level, failsafe] =>
    let c : ZoneCfg := { level := level, failsafeDemand := orDefault 60 failsafe }
    if within 0 7 c.level && within 0 100 c.failsafeDemand then some c else none
  | _ => none

/-- A direction code: FORWARD 0, anything else REVERSE (the range check stands before it). -/
def directionOf (v : Nat) : Direction := if v = 0 then .forward else .reverse

/-- A fan record from its fields (section 6.1, R124). -/
def defineFan : List Nat → Option FanCfg
  | [zone, rated, minRun, start, maxSpeed, accel, decel, reversible, dirA, dirB, dwell] =>
    let rev := orDefault 0 reversible
    let a := orDefault 0 dirA
    let b := orDefault 1 dirB
    let c : FanCfg :=
      { zone := zone, rated := rated, minRun := orDefault 25 minRun, start := orDefault 15 start,
        maxSpeed := orDefault 100 maxSpeed, accel := orDefault 2 accel, decel := orDefault 3 decel,
        reversible := decide (rev = 1), dirA := directionOf a, dirB := directionOf b, dwell := orDefault 15 dwell }
    if within 0 11 c.zone && within 500 200000 c.rated && within 10 60 c.minRun && within 5 60 c.start &&
        within 50 100 c.maxSpeed && within 1 255 c.accel && within 1 255 c.decel && within 0 1 rev && within 0 1 a &&
        within 0 1 b && within 5 120 c.dwell then some c else none
  | _ => none

/-- The jitter limit from the device settings' field (section 10.2). -/
def defineJitter : List Nat → Option Nat
  | [jitter] => if within 20 4000 (orDefault 120 jitter) then some (orDefault 120 jitter) else none
  | _ => none

/-- The greatest number of a kind of record DEFINE and DELETE take; none for any other kind (R188). -/
def lastNumber : Nat → Option Nat
  | 0 => some 1023
  | 2 => some 15
  | 3 => some 7
  | 4 => some 63
  | 5 => some 31
  | 6 => some 11
  | 9 => some 23
  | 12 => some 0
  | _ => none

/-- Whether a kind and number are ones DEFINE and DELETE take (R188). -/
def kindAndNumberFit (kind number : Nat) : Bool :=
  match lastNumber kind with
  | some last => decide (number ≤ last)
  | none => false

/-- The traffic range table a level keeps through a DEFINE: its own, or eight absent slots for a new record (R33). -/
def keptTraffic (c : Configuration) (level : Nat) : List (Option TrafficRange) :=
  match c.levels.find level with
  | some l => l.traffic
  | none => List.replicate 8 none

/-- A configuration with a record defined, and whether it replaced one; none where a field lies outside its range (R188). -/
def Configuration.define (c : Configuration) (kind number : Nat) (fields : List Nat) : Option (Configuration × Bool) :=
  match kind with
  | 0 => (defineBay fields).map fun x => ({ c with bays := c.bays.put number x }, c.bays.has number)
  | 2 => (definePair fields).map fun x => ({ c with pairs := c.pairs.put number x }, c.pairs.has number)
  | 3 =>
    (defineLevel (keptTraffic c number) fields).map fun x =>
      ({ c with levels := c.levels.put number x }, c.levels.has number)
  | 4 => (defineRow fields).map fun x => ({ c with rows := c.rows.put number x }, c.rows.has number)
  | 5 => (defineHead fields).map fun x => ({ c with heads := c.heads.put number x }, c.heads.has number)
  | 6 => (defineZone fields).map fun x => ({ c with zones := c.zones.put number x }, c.zones.has number)
  | 9 => (defineFan fields).map fun x => ({ c with fans := c.fans.put number x }, c.fans.has number)
  | 12 => (defineJitter fields).map fun x => ({ c with jitter := x }, true)
  | _ => none

/-- A configuration with a record deleted; none where it holds no such record, and for the device settings (R188). -/
def Configuration.delete (c : Configuration) (kind number : Nat) : Option Configuration :=
  match kind with
  | 0 => if c.bays.has number then some { c with bays := c.bays.erase number } else none
  | 2 => if c.pairs.has number then some { c with pairs := c.pairs.erase number } else none
  | 3 => if c.levels.has number then some { c with levels := c.levels.erase number } else none
  | 4 => if c.rows.has number then some { c with rows := c.rows.erase number } else none
  | 5 => if c.heads.has number then some { c with heads := c.heads.erase number } else none
  | 6 => if c.zones.has number then some { c with zones := c.zones.erase number } else none
  | 9 => if c.fans.has number then some { c with fans := c.fans.erase number } else none
  | _ => none

/-- Whether a piece of a poll list fits: position, entries, number of entries and resulting length (R189). -/
def pollPieceFits (list : List Nat) (position : Nat) (entries : List Nat) : Bool :=
  within 1 (list.length + 1) position && entries.all (fun a => decide (a ≤ 239)) && decide (entries.length ≤ 128) &&
  decide (position - 1 + entries.length ≤ 256)

/-- The working list cut to its first p − 1 entries with the entries appended (R189). -/
def pollPieceWritten (list : List Nat) (position : Nat) (entries : List Nat) : List Nat :=
  list.take (position - 1) ++ entries

/-! ### Tables -/

/-- Whether a stage row's values lie in their ranges (R110). -/
def stageInRange (r : StageRow) : Bool :=
  within 1 1000 r.coMean && within 1 1000 r.coInst && within 1 500 r.no2Inst && within 0 100 r.demand

/-- Whether no value of a stage lies below that of the stage under it (R110). -/
def stageNotBelow (r under : StageRow) : Bool :=
  decide (under.coMean ≤ r.coMean) && decide (under.coInst ≤ r.coInst) && decide (under.no2Inst ≤ r.no2Inst) &&
  decide (under.demand ≤ r.demand)

/-- Whether each stage stands at or above the one before it. -/
def stagesRise : List StageRow → Bool
  | a :: b :: rest => stageNotBelow b a && stagesRise (b :: rest)
  | _ => true

/-- Whether a stage table is one SET_STAGE_TABLE accepts (R110). -/
def stageTableFits (stages : List StageRow) (hysteresis dwell : Nat) : Bool :=
  stages.all stageInRange && stagesRise stages && decide (hysteresis ≤ 50) && within 30 1800 dwell

/-- Whether a slot as it is carried is one SET_TRAFFIC_TABLE accepts; the other bytes of an absent slot are not used (R116). -/
def slotFits (x : SlotOperand) : Bool :=
  decide (x.presence = 0) ||
  (decide (x.presence = 1) && decide (x.lower ≤ x.upper) && (decide (x.demand ≤ 100) || decide (x.demand = 255)))

/-- The slot a carried slot stands for (R116). -/
def slotRange (x : SlotOperand) : Option TrafficRange :=
  if x.presence = 0 then none else some { lower := x.lower, upper := x.upper, demand := x.demand }

/-- The admin states CLAIM_BAY may expect: OPEN, CLAIMED and CLOSED (R68). -/
def expectable (code : Nat) : Bool := decide (code = 0) || decide (code = 2) || decide (code = 3)

/-! ### Light levels (R89) -/

/-- The values of SET_LIGHT_LEVELS as they are stored. -/
structure LightLevels where
  base   : Nat
  active : Nat
  hold   : Nat
  fade   : Nat
deriving DecidableEq, Repr

/-- The clamps of SET_LIGHT_LEVELS: the base first, the active level then against the stored base (R89). -/
def clampLight (base active hold fade : Nat) : LightLevels :=
  let b := clamp 10 100 base
  { base := b, active := clamp b 100 active, hold := clamp 30 1800 hold, fade := clamp 1 50 fade }

/-- A row record with the values of SET_LIGHT_LEVELS. -/
def RowCfg.withLight (c : RowCfg) (v : LightLevels) : RowCfg :=
  { c with base := v.base, active := v.active, holdTime := v.hold }

/-- A row's request derived anew: active while its light timer runs, base otherwise (R89, R92). -/
def Row.rerequested (r : Row) : Row :=
  { r with requested := if r.lightTimer.isSome then r.cfg.active else r.cfg.base }

end Sys2Proof.Machine
end

