-- ==== Sys2Proof/Machine/Flags.lean ====
section
/-! DEFINITION. What the part shows outside: port flags, response frames, notice lines, and the pins of the fan channels and
of the field loop, each following from the state (R177, R127, R124, R161, R193, section 9.8). -/

namespace Sys2Proof.Machine

/-! ### Port flags and response frames -/

/-- The port flags byte (section 9.8). -/
def PortFlags.byte (f : PortFlags) : Nat :=
  (if f.commandOverrun then 0x01 else 0) + (if f.eventsWaiting then 0x02 else 0) + (if f.more then 0x04 else 0) +
  (if f.config then 0x08 else 0) + (if f.profileBusy then 0x10 else 0)

/-- The flags of a response built now at a port (R177). -/
def flagsNow (s : State) (st : Station) (overrun more : Bool) : PortFlags :=
  { commandOverrun := overrun
    eventsWaiting := !(s.port st).events.isEmpty
    more := more
    config := !s.inRun
    profileBusy := s.writing }

/-- A response frame as its bytes (section 9.8). -/
def Response.frame (r : Response) : List Byte :=
  withCrc
    (leBytes 1 (r.contents.length + 7) ++ leBytes 1 r.tag ++ leBytes 1 r.code ++ leBytes 1 r.status.code ++
      leBytes 1 r.flags.byte ++ r.contents)

/-- What a port shifts out in its transaction, without the zeros that follow: the fixed frame, or the empty frame (R174); that
of a part that RESET_N does not hold. -/
def Port.shiftsOut (p : Port) : List Byte :=
  match p.transaction with
  | .active (some r) _ => r.frame
  | .active none _ => [0x00#8]
  | .abandoned => []
  | .idle => []

/-- What a station's SDO shifts out, without the zeros that follow (R174, R181); while RESET_N holds the part it is not stated
(R193, log entry 41). -/
def State.shiftsOut (s : State) (st : Station) : List Byte :=
  if s.control.resetHeld then Config.restartPortOutput (Station.code st) else (s.port st).shiftsOut

/-- What a port's NOTICE line follows: its event queue and its response buffer (R177). -/
def Port.notice (p : Port) : Bool := !p.events.isEmpty || !p.responses.isEmpty

/-- The level of a port's NOTICE line (R177); while RESET_N holds the part it is not stated (R193). -/
def State.notice (s : State) (st : Station) : Bool :=
  if s.control.resetHeld then Config.restartNoticeLine (Station.code st) else (s.port st).notice

/-! ### Fan channel pins (R127, R124, R193) -/

/-- The levels of a fan channel's output pins: pulse rate in Hz, direction (high for REVERSE) and run. -/
structure FanPins where
  pulseHz : Nat
  dir     : Bool
  run     : Bool
deriving DecidableEq, Repr

/-- The output pins of a channel. -/
def State.fanPins (s : State) (ch : Nat) : FanPins :=
  if s.control.resetHeld then { pulseHz := 0, dir := Config.restartDirectionLine ch, run := false }
  else
    match s.fans.find ch with
    | none => { pulseHz := 0, dir := false, run := false }
    | some f => { pulseHz := f.commanded * 100, dir := decide (f.direction = .reverse), run := decide (0 < f.commanded) }

/-! ### Field loop pins (R161) -/

/-- Whether FDE is driven: while a request is being sent (R161, R164), and not while RESET_N holds the part (R193). -/
def State.fde (s : State) : Bool :=
  !s.control.resetHeld &&
  match s.loop.current with
  | some t => !t.sent
  | none => false

/-- The characters of the request being sent while FDE is driven, none while it is released (R161, R193). -/
def State.sending (s : State) : List FieldChar :=
  if s.fde then
    match s.loop.current with
    | some t => requestChars t.address t.request
    | none => []
  else []

/-- The levels FTX passes through for the request being sent, back to back (R161); the line is idle at mark (section 8.1).
While RESET_N holds the part its level is not stated (R193, log entry 41). -/
def State.transmits (s : State) : List Bool :=
  if s.control.resetHeld then [Config.restartFieldTransmit]
  else if s.fde then s.sending.flatMap charLevels else [true]

/-- The bit rate of the field loop in baud (R161). -/
def State.bitRate (s : State) : Nat := if s.control.strapHigh then 230400 else 57600

end Sys2Proof.Machine
end

