-- ==== Sys2Proof/Machine/Reads.lean ====
section
/-! DEFINITION. The read-outs: the words of every kind of record (READ_RECORD), the status, the events, and the paged lists
of requests, holds and loads. -/

namespace Sys2Proof.Machine

/-! ### Words (R184) -/

/-- A 32-bit field: two words, low word first (R184). -/
def words32 (n : Nat) : List Nat := [n % 65536, n / 65536 % 65536]

/-- A 16-bit field that may be absent, read as 0xFFFF then. -/
def word16OrAbsent (v : Option Nat) : Nat := v.getD 0xFFFF

/-- A deck time that may be absent, read as 0xFFFFFFFF then. -/
def timeOrAbsent (v : Option Time) : List Nat := words32 ((v.map (·.toNat)).getD 0xFFFFFFFF)

/-- A flag as a word. -/
def bit (b : Bool) : Nat := if b then 1 else 0

/-! ### Records -/

/-- Configuration fields of a bay (section 1.1). -/
def BayCfg.words (n : Nat) (c : BayCfg) : List Nat :=
  [n, c.row, c.cls, c.node, c.channel, c.cost, c.onThr, c.offThr, word16OrAbsent c.ref0, word16OrAbsent c.ref1,
   word16OrAbsent c.ref2, word16OrAbsent c.ref3]

/-- The ticket field of a bay: absent (0) unless HELD. -/
def Admin.ticketWord : Admin → Nat
  | .held t => t
  | .opened => 0
  | .claimed _ => 0
  | .closed => 0

/-- The claiming station of a bay: absent (0xFFFF) unless CLAIMED. -/
def Admin.claimWord : Admin → Nat
  | .claimed st => Station.code st
  | .opened => 0xFFFF
  | .held _ => 0xFFFF
  | .closed => 0xFFFF

/-- The read-out of a bay (R22). -/
def bayWords (n : Nat) (b : Bay) : List Nat :=
  b.cfg.words n ++
  ([b.sensed.code, b.admin.code, bit b.learning, b.learnProgress] ++ words32 b.learnSum ++
   [b.baseline, word16OrAbsent b.lastCount, b.onRun, b.offRun, b.window.length, jumpyCount b.window, b.invalidRun,
    b.admin.ticketWord, b.admin.claimWord] ++ timeOrAbsent b.changedAt)

/-- The read-out of a bay node's band record (R23). -/
def bandWords (s : State) (node : Nat) : List Nat :=
  let r := s.bandRecord node
  [r.band, r.changes.length] ++ timeOrAbsent r.changes[0]? ++ timeOrAbsent r.changes[1]? ++ timeOrAbsent r.changes[2]? ++
  [word16OrAbsent ((s.pendingBand node).map (·.band))]

/-- A signed position as a 16-bit two's complement word. -/
def signedWord (p : Int) : Nat := (p % 65536).toNat

/-- The read-out of a ramp pair (R43). -/
def pairWords (s : State) (n : Nat) (p : RampPair) : List Nat :=
  [n, p.cfg.upper.code, p.cfg.lower, bit (s.pins.rampA.getLsbD n), bit (s.pins.rampB.getLsbD n), bit p.filteredA,
   bit p.filteredB, p.phase, signedWord p.position, bit p.spoiled, bit p.settle.isSome]

/-- The read-out of a level, without its traffic range table (R43). -/
def levelWords (s : State) (n : Nat) (l : Level) : List Nat :=
  [n, l.cfg.driftLimit, l.cfg.driftTime, l.cfg.weight, word16OrAbsent l.cfg.sign1, word16OrAbsent l.cfg.sign2, l.count,
   s.presentCount n] ++ l.ring ++ words32 l.movements ++
  [s.trafficIndex n, bit l.pending, l.drift.code, timerLeft s.deckTime l.driftExpiry]

/-- The read-out of a row (R90). -/
def rowWords (s : State) (n : Nat) (r : Row) : List Nat :=
  [n, r.cfg.level, r.cfg.zone, r.cfg.parent.code, r.cfg.node, r.cfg.rated, r.cfg.base, r.cfg.active, r.cfg.holdTime,
   r.requested, timerLeft s.deckTime r.lightTimer, r.granted, r.commanded, r.step.code, s.pathHolds n, bit (s.arrow n)] ++
  [0, 1, 2, 3].map (s.freeCount n) ++ [0, 1, 2, 3].map (s.offeredCount n) ++ words32 (s.rowDraw r)

/-- The flags of a gas reply as a word (section 5.1). -/
def GasFlags.word (f : GasFlags) : Nat := bit f.satCo + 2 * bit f.satNo2 + 4 * bit f.warmup + 8 * bit f.sensorFault

/-- The read-out of a gas head (R118). -/
def headWords (n : Nat) (h : Head) : List Nat :=
  [n, 128 + n, h.cfg.zone, h.cfg.coOffset, h.cfg.coGain, h.cfg.no2Offset, h.cfg.no2Gain, h.health.code,
   word16OrAbsent (h.raw.map (·.co)), word16OrAbsent (h.raw.map (·.no2)), word16OrAbsent (h.raw.map (·.flags.word)),
   word16OrAbsent (h.values.map (·.co)), word16OrAbsent (h.values.map (·.no2))] ++ timeOrAbsent (h.values.map (·.time))

/-- A ring as fifteen words, oldest first, 0xFFFF for entries not held (R119). -/
def ringWords (ring : List Nat) : List Nat := (List.range 15).map fun i => word16OrAbsent ring[i]?

/-- The read-out of a zone (R119). -/
def zoneWords (s : State) (n : Nat) (z : Zone) : List Nat :=
  [n, z.cfg.level, z.cfg.failsafeDemand, z.stage, bit z.failsafe, (s.usableHeads n).length, z.coInst, z.no2Inst, z.coMean,
   z.no2Mean] ++ words32 z.coSum ++ words32 z.no2Sum ++ words32 z.samples ++ [z.coRing.length] ++ ringWords z.coRing ++
  ringWords z.no2Ring ++ [timerLeft s.deckTime z.dwell, (z.override.map (·.demand)).getD 0] ++
  words32 (timerLeft s.deckTime (z.override.map (·.expires))) ++
  [s.stageTable.demand z.stage, s.trafficDemand z.cfg.level, s.zoneDemand z, z.fanClass, z.pattern.code]

/-- A slot of a traffic range table as three words (R119). -/
def slotWords : Option TrafficRange → List Nat
  | some r => [r.lower, r.upper, r.demand]
  | none => [0xFFFF, 0xFFFF, 0xFFFF]

/-- The read-out of a level's traffic range table (R119). -/
def trafficWords (s : State) (n : Nat) (l : Level) : List Nat :=
  l.cfg.traffic.flatMap slotWords ++ [s.trafficIndex n, s.trafficDemand n]

/-- The read-out of the stage table: the operands of SET_STAGE_TABLE in their order (R119). -/
def stageWords (t : StageTable) : List Nat :=
  t.stages.flatMap (fun r => [r.coMean, r.coInst, r.no2Inst, r.demand]) ++ [t.hysteresis, t.dwell]

/-- The read-out of a fan (R141). -/
def fanWords (s : State) (n : Nat) (f : Fan) : List Nat :=
  [n, f.cfg.zone] ++ words32 f.cfg.rated ++
  [f.cfg.minRun, f.cfg.start, f.cfg.maxSpeed, f.cfg.accel, f.cfg.decel, bit f.cfg.reversible, f.cfg.dirA.code,
   f.cfg.dirB.code, f.cfg.dwell, f.state.code, f.commanded, f.granted, f.request, f.floor, f.cls, f.direction.code,
   (s.dueDirection f).code, bit f.rampHeld, timerLeft s.deckTime f.timer, bit (s.pins.fanFault.getLsbD n)] ++ words32 f.draw

/-- The read-out of a node's health record (R172). -/
def healthWords (r : HealthRecord) : List Nat :=
  [r.health.code, r.failures, word16OrAbsent (r.lastOutcome.map (·.code))] ++ timeOrAbsent r.lastOk

/-- The read-out of the field loop (R172). -/
def loopWords (s : State) : List Nat :=
  [bit s.control.strapHigh, s.loop.state.code, s.loop.pollList.length, s.loop.next,
   word16OrAbsent (s.loop.current.map (·.address))] ++ s.loop.pollList

/-- The greatest number of a kind of READ_RECORD; none where the number is not used (R184). -/
def lastReadNumber : Nat → Option Nat
  | 0 => some 1023
  | 1 => some 127
  | 2 => some 15
  | 3 => some 7
  | 4 => some 63
  | 5 => some 31
  | 6 => some 11
  | 7 => some 7
  | 9 => some 23
  | 10 => some 239
  | _ => none

/-- Whether a kind, number and part are ones READ_RECORD takes (R184 and the chapters' refusals of a number out of range). -/
def readFits (kind number part : Nat) : Bool :=
  decide (kind ≤ 12) && decide (part ≤ 3) &&
  match lastReadNumber kind with
  | some last => decide (number ≤ last)
  | none => true

/-- The words of a record's read-out; none where there is no record (R184). -/
def readOut (s : State) (kind number : Nat) : Option (List Nat) :=
  match kind with
  | 0 => (s.bays.find number).map (bayWords number)
  | 1 => some (bandWords s number)
  | 2 => (s.pairs.find number).map (pairWords s number)
  | 3 => (s.levels.find number).map (levelWords s number)
  | 4 => (s.rows.find number).map (rowWords s number)
  | 5 => (s.heads.find number).map (headWords number)
  | 6 => (s.zones.find number).map (zoneWords s number)
  | 7 => (s.levels.find number).map (trafficWords s number)
  | 8 => some (stageWords s.stageTable)
  | 9 => (s.fans.find number).map (fanWords s number)
  | 10 => some (healthWords (s.nodeRecord number))
  | 11 => some (loopWords s)
  | 12 => some [s.jitter]
  | _ => none

/-- The contents of a READ_RECORD response: kind, number, part, total words, and the words of the part, at most 72 (R184). -/
def recordContents (kind number part : Nat) (words : List Nat) : List Byte :=
  leBytes 1 kind ++ leBytes 2 number ++ leBytes 1 part ++ leBytes 2 words.length ++
  ((words.drop (72 * part)).take 72).flatMap (leBytes 2)

/-! ### Status and events (R178, R182) -/

/-- The node addresses at FAULT. -/
def faultCount (s : State) : Nat := s.loop.health.countP fun p => decide (p.2.health = .fault)

/-- The zones in force that are FAILSAFE. -/
def failsafeCount (s : State) : Nat := s.zones.countP fun p => p.2.failsafe

/-- The contents of a READ_STATUS response (R178). -/
def statusContents (s : State) (st : Station) : List Byte :=
  let p := s.port st
  leBytes 1 s.control.mode.code ++ leBytes 4 s.deckTime.toNat ++ leBytes 1 s.control.cause.code ++
  leBytes 1 (bit s.control.profileValid) ++ leBytes 1 (bit s.writing) ++ leBytes 1 (bit s.control.strapHigh) ++
  leBytes 1 p.events.length ++ leBytes 1 (bit p.eventOverrun) ++ leBytes 4 p.mask.toNat ++
  leBytes 1 s.guidance.queue.length ++ leBytes 1 s.guidance.holds.length ++ leBytes 1 (bit s.supply.short) ++
  leBytes 1 (bit s.pins.shed) ++ leBytes 1 (faultCount s) ++ leBytes 1 (failsafeCount s)

/-- An event record as its eleven bytes (section 9.8). -/
def EventRecord.bytes (e : EventRecord) : List Byte :=
  leBytes 1 e.kind.code ++ leBytes 4 e.time.toNat ++ leBytes 2 e.subject ++ leBytes 2 e.a ++ leBytes 2 e.b

/-- The contents of a READ_EVENTS response that takes up to `count` records (R182). -/
def eventsContents (p : Port) (count : Nat) : List Byte :=
  leBytes 1 (bit p.eventOverrun) ++ leBytes 1 (p.events.length - count) ++ leBytes 1 (min count p.events.length) ++
  (p.events.take count).flatMap EventRecord.bytes

/-! ### Paged lists (R185, R72, R158) -/

/-- The entries of page p: 8 × p + 1 to 8 × p + 8 (R185). -/
def pageOf {α : Type} (l : List α) (p : Nat) : List α := (l.drop (8 * p)).take 8

/-- The counts of a page: entries in the list, the page, entries returned (R185). -/
def pageCounts {α : Type} (l : List α) (p : Nat) : List Byte :=
  leBytes 1 l.length ++ leBytes 1 p ++ leBytes 1 (pageOf l p).length

/-- A request of the guidance queue as it is read (section 3.3). -/
def Request.bytes (r : Request) : List Byte :=
  leBytes 2 r.ticket ++ leBytes 2 (Station.code r.station) ++ leBytes 2 r.cls ++ leBytes 2 r.lane ++ leBytes 2 (bit r.priority) ++
  leBytes 4 r.enqueued.toNat ++ leBytes 4 r.deadline.toNat

/-- A hold as it is read (section 3.5). -/
def Hold.bytes (h : Hold) : List Byte :=
  leBytes 2 h.ticket ++ leBytes 2 h.bay ++ leBytes 2 (Station.code h.station) ++ leBytes 2 h.cls ++ leBytes 2 h.level ++
  leBytes 4 h.issued.toNat ++ leBytes 4 h.expiry.toNat

/-- A fan of the inventory as its load entry (section 7.1). -/
def fanEntry (s : State) (n : Nat) (f : Fan) : List Byte :=
  leBytes 2 0 ++ leBytes 2 n ++ leBytes 2 f.cls ++ leBytes 2 f.floor ++ leBytes 2 f.request ++ leBytes 4 f.floorDraw ++
  leBytes 2 f.granted ++ leBytes 4 (f.cfg.power f.granted) ++ leBytes 4 f.draw ++ leBytes 2 (heldPosition s (.fan n))

/-- A row of the inventory as its load entry (section 7.1). -/
def rowEntry (s : State) (n : Nat) (r : Row) : List Byte :=
  leBytes 2 1 ++ leBytes 2 n ++ leBytes 2 2 ++ leBytes 2 r.cfg.base ++ leBytes 2 r.requested ++ leBytes 4 (s.rowFloorDraw r) ++
  leBytes 2 r.granted ++ leBytes 4 (s.rowPower r r.granted) ++ leBytes 4 (s.rowDraw r) ++ leBytes 2 (heldPosition s (.row n))

/-- The loads in their fixed order: fans by channel, then rows by number (R158). -/
def loadEntries (s : State) : List (List Byte) :=
  s.fanLoads.map (fun p => fanEntry s p.1 p.2) ++ s.rows.map fun p => rowEntry s p.1 p.2

/-- The header of a READ_LOADS response (R158). -/
def loadsHeader (s : State) : List Byte :=
  leBytes 4 s.supply.normal ++ leBytes 4 s.supply.shed ++ leBytes 2 (bit s.pins.shed) ++ leBytes 4 s.allowance ++
  leBytes 4 s.supply.floorTotal ++ leBytes 4 s.totalDraw ++ leBytes 4 s.grantedSum ++ leBytes 4 s.supply.budget ++
  leBytes 2 s.supply.k1 ++ leBytes 2 s.supply.k2 ++ leBytes 2 s.supply.k3 ++ leBytes 2 (bit s.supply.short) ++
  leBytes 2 (bit (!s.inRun)) ++ leBytes 2 (heldList s).length ++ leBytes 2 (loadEntries s).length

end Sys2Proof.Machine
end

