-- ==== Sys2Proof/Machine/Restart.lean ====
section
/-! DEFINITION. Records as they start, profiles, the full restart and the soft restart (R193, R194, and the restart tables
R24, R44, R74, R93, R122, R145, R160, R171, R181). -/

namespace Sys2Proof.Machine

/-! ### Records as they start -/

/-- A bay with the runtime values of R24 and a baseline. -/
def Bay.fresh (c : BayCfg) (baseline : Nat) : Bay :=
  { cfg := c, sensed := .unknown, admin := .opened, learning := true, learnProgress := 0, learnSum := 0,
    baseline := baseline, lastCount := none, onRun := 0, offRun := 0, window := [], invalidRun := 0, changedAt := none }

/-- A ramp pair with the state of R44: filtered levels from the raw levels, spoiled unless its phase is 0. -/
def RampPair.fresh (pins : Pins) (n : Nat) (c : PairCfg) : RampPair :=
  let a := pins.rampA.getLsbD n
  let b := pins.rampB.getLsbD n
  { cfg := c, filteredA := a, filteredB := b, position := 0, spoiled := decide (phaseOf a b ≠ 0), settle := none }

/-- A level with count 0, an empty ring and drift IDLE (R44, R45). -/
def Level.fresh (c : LevelCfg) : Level := { cfg := c, count := 0, ring := [0, 0, 0, 0, 0], pending := false, drift := .idle }

/-- A row with the runtime values of R93; the computation that follows gives its grant and its step state. -/
def Row.fresh (now : Time) (c : RowCfg) : Row :=
  { cfg := c, requested := c.active, lightTimer := some (Time.plus now (c.holdTime * 10)), granted := 0,
    commanded := c.active, step := .frozen }

/-- A head with health NONE and every runtime field absent (R121, R122). -/
def Head.fresh (c : HeadCfg) : Head := { cfg := c, health := .none, raw := none, values := none }

/-- A zone with the state of R122. -/
def Zone.fresh (c : ZoneCfg) : Zone :=
  { cfg := c, stage := 0, failsafe := true, coInst := 0, no2Inst := 0, coSum := 0, no2Sum := 0, samples := 0, coRing := [],
    no2Ring := [], dwell := none, override := none, pattern := .a }

/-- A fan STOPPED at 0 with a direction; its request, floor and class are formed from its zone (R144, R145, R126). -/
def Fan.fresh (c : FanCfg) (d : Direction) : Fan :=
  { cfg := c, state := .stopped, commanded := 0, granted := 0, request := 0, floor := 0, cls := 3, direction := d,
    rampHeld := false, timer := none }

/-! ### Profiles (R192) -/

/-- What a profile written now holds (R192). -/
def profileOf (s : State) : Profile :=
  { config := s.inForce, classTable := s.guidance.classTable, penalties := s.guidance.penalties, stageTable := s.stageTable,
    fade := s.fade, normal := s.supply.normal, shed := s.supply.shed, maxWait := s.guidance.maxWait,
    holdTime := s.guidance.holdTime, substitution := s.guidance.substitution, maskS := s.ports.supervisor.mask,
    maskL := s.ports.lane.mask, maskG := s.ports.guidance.mask }

/-- What a full restart with no valid profile takes: no record, and every table, setting and mask at its default (R193). -/
def Profile.defaults : Profile :=
  { config := Configuration.empty, classTable := defaultClassTable, penalties := defaultPenalties,
    stageTable := defaultStageTable, fade := 5, normal := 2000000, shed := 50000, maxWait := 900, holdTime := 300,
    substitution := true, maskS := defaultMask .supervisor, maskL := defaultMask .lane, maskG := defaultMask .guidance }

/-! ### Ports at a restart (R181) -/

/-- A port's transaction at a restart: one in progress is abandoned until SEL rises (R181). -/
def PortTransaction.abandon : PortTransaction → PortTransaction
  | .idle => .idle
  | .active _ _ => .abandoned
  | .abandoned => .abandoned

/-- A port emptied at a restart; its mask is kept (R181). -/
def Port.emptied (p : Port) : Port :=
  { p with
    commands := [], responses := [], overrun := false, events := [], eventOverrun := false,
    transaction := p.transaction.abandon }

/-- The three ports emptied (R181). -/
def emptyPorts (p : Ports) : Ports :=
  { supervisor := p.supervisor.emptied, lane := p.lane.emptied, guidance := p.guidance.emptied }

/-! ### The full restart (R193) -/

/-- The bay nodes that carry a defined bay, each once, in rising order. -/
def bayNodes (bays : Table BayCfg) : List Nat := (List.range 128).filter fun a => bays.any fun p => decide (p.2.node = a)

/-- Every block's state after a full restart that loads the contents `p` (R193 steps 1, 3 and 4). F, B and the scales, which
R160 gives from the first computation alone, stand at 0 until one is taken: the model's choice (log entry 39). -/
def loadProfile (p : Profile) (valid : Bool) (cause : RestartCause) (s : State) : State :=
  let c := p.config
  { pending := s.pending
    deckTime := 0#32
    control :=
      { mode := if valid then .run else .config
        working := if valid then none else some Configuration.empty
        profileValid := valid
        write := none
        store := if valid then some p else none
        cause := cause
        strapHigh := s.control.strapHigh
        resetHeld := false }
    pins := s.pins
    ports :=
      { supervisor := { s.ports.supervisor with mask := p.maskS }
        lane := { s.ports.lane with mask := p.maskL }
        guidance := { s.ports.guidance with mask := p.maskG } }
    bays := c.bays.mapRecords fun _ b => Bay.fresh b (b.ref0.getD 0)
    bands := []
    jitter := c.jitter
    pairs := c.pairs.mapRecords fun n x => RampPair.fresh s.pins n x
    levels := c.levels.mapRecords fun _ x => Level.fresh x
    censusMinute := 600#32
    censusStart := some 300#32
    rows := c.rows.mapRecords fun _ x => Row.fresh 0#32 x
    fade := p.fade
    heads := c.heads.mapRecords fun _ x => Head.fresh x
    zones := c.zones.mapRecords fun _ x => Zone.fresh x
    stageTable := p.stageTable
    airMinute := 600#32
    fans := c.fans.mapRecords fun _ x => Fan.fresh x x.dirA
    guidance :=
      { queue := [], holds := [], lastTicket := 0, classTable := p.classTable, penalties := p.penalties, maxWait := p.maxWait,
        holdTime := p.holdTime, substitution := p.substitution }
    supply :=
      { normal := p.normal, shed := p.shed, floorTotal := 0, budget := 0, k1 := 0, k2 := 0, k3 := 0, short := false }
    loop :=
      { state := if valid then .running else .stopped
        pollList := c.pollList
        next := firstEntry c.pollList
        current := none
        health := []
        pendingBands := (bayNodes c.bays).map fun a => (a, { counted := false, band := 0 }) } }

/-- The fans whose fault input stands asserted, in rising channel: the order of their FAN_FAULT records at a full restart is the
model's choice (log entry 38). -/
def assertedFans (s : State) : List Nat := s.fans.numbers.filter fun ch => s.pins.fanFault.getLsbD ch

/-- The start of a part in RUN: requests formed, fans with an asserted input to FAULTED, the first computation, and the
walk's first transaction (R193 step 6, R145, R160, R171). -/
def startRunning (s : State) : State :=
  startTransaction (compute true (forEach (assertedFans s) fanToFault (handDemands s)))

/-- The full restart, from the contents of the store (R193). A write in flight leaves no profile (R192). -/
def fullRestart (cause : RestartCause) (s : State) : State :=
  let stored := if s.writing then none else s.control.store
  let loaded :=
    match stored with
    | some p => loadProfile p true cause s
    | none => loadProfile Profile.defaults false cause s
  let emptied := { loaded with ports := emptyPorts loaded.ports }
  let told := postRestarted (bit loaded.control.profileValid) loaded.control.mode.code emptied
  if told.inRun then startRunning told else told

/-! ### The soft restart (R194) -/

/-- The soft restart: ports emptied, RESTARTED queued, and the transaction in flight cut short (R194). -/
def softRestart (s : State) : State :=
  let s1 := (s.setControl { s.control with cause := .softCommand })
  let s2 := { s1 with ports := emptyPorts s1.ports }
  cutShort (postRestarted (bit s2.control.profileValid) s2.control.mode.code s2)

end Sys2Proof.Machine
end

