-- ==== Sys2Proof/Machine/Configuration.lean ====
section
/-! DEFINITION. COMMIT: its ten checks (R190) and the taking of the working copy block by block (R191, R25, R45, R121, R144,
R92, R159, R15, R170); and ENTER_CONFIG (R187). -/

namespace Sys2Proof.Machine

/-! ### The checks (R190) -/

/-- A failure of COMMIT: check number, kind and number reported. -/
structure CommitFailure where
  check  : Nat
  kind   : Nat
  number : Nat
deriving DecidableEq, Repr

/-- The first record of a table that fails a test, reported under a check and kind. -/
def firstFailing {α : Type} (check kind : Nat) (t : Table α) (bad : Nat → α → Bool) : Option CommitFailure :=
  (t.find? fun p => bad p.1 p.2).map fun p => { check := check, kind := kind, number := p.1 }

/-- Whether the chain of parent rows from a row reaches a root row within `fuel` rows, all on one level, with a parent pair
that has a record and bounds the level; a chain that repeats a row never ends (check 3). -/
def chainReaches (c : Configuration) (level : Nat) : Nat → Nat → Bool
  | 0, _ => false
  | fuel + 1, n =>
    match c.rows.find n with
    | none => false
    | some r =>
      decide (r.level = level) &&
      match r.parent with
      | .pair p =>
        match c.pairs.find p with
        | some x => x.bounds level
        | none => false
      | .row m => chainReaches c level fuel m

/-- Whether a pair joins adjacent levels with records, or STREET to level 0 (check 4). -/
def pairJoins (c : Configuration) (x : PairCfg) : Bool :=
  c.levels.has x.lower &&
  match x.upper with
  | .street => decide (x.lower = 0)
  | .level u => c.levels.has u && decide (x.lower = u + 1)

/-- Whether a zone has a record on a level (check 2). -/
def zoneOnLevel (c : Configuration) (zone level : Nat) : Bool :=
  match c.zones.find zone with
  | some z => decide (z.level = level)
  | none => false

/-- Whether an earlier record of a table shares a property with record `n` (checks 7 and 8). -/
def sharesEarlier {α : Type} (t : Table α) (same : α → α → Bool) (n : Nat) (x : α) : Bool :=
  t.any fun p => decide (p.1 < n) && same p.2 x

/-- The addresses in use, in the order check 10 takes them: nodes of bays, sign nodes of levels, nodes of rows, addresses of
heads. Of one level sign node 1 stands before sign node 2: the model's choice (log entry 43). -/
def addressesInUse (c : Configuration) : List Nat :=
  c.bays.map (fun p => p.2.node) ++
  (c.levels.flatMap (fun p => p.2.sign1.toList ++ p.2.sign2.toList) ++
   (c.rows.map (fun p => p.2.node) ++ c.heads.map (fun p => 128 + p.1)))

/-- The ten checks of COMMIT, in the order of their table. -/
def commitChecks (c : Configuration) : List (Option CommitFailure) :=
  [ firstFailing 1 0 c.bays fun _ b => !c.rows.has b.row,
    firstFailing 2 4 c.rows fun _ r => !zoneOnLevel c r.zone r.level,
    firstFailing 3 4 c.rows fun n r => !chainReaches c r.level 8 n,
    firstFailing 4 2 c.pairs fun _ x => !pairJoins c x,
    firstFailing 5 5 c.heads fun _ h => !c.zones.has h.zone,
    firstFailing 5 9 c.fans fun _ f => !c.zones.has f.zone,
    firstFailing 6 9 c.fans fun _ f => !(decide (f.start ≤ f.minRun) && decide (f.minRun ≤ f.maxSpeed)),
    firstFailing 7 0 c.bays
      (sharesEarlier c.bays fun x y => decide (x.node = y.node) && decide (x.channel = y.channel)),
    firstFailing 8 4 c.rows (sharesEarlier c.rows fun x y => decide (x.node = y.node)),
    firstFailing 9 0 c.bays fun _ b => b.ref0.isNone,
    ((addressesInUse c).find? fun a => !c.pollList.contains a).map fun a => { check := 10, kind := 10, number := a } ]

/-- The first check of COMMIT that fails (R190). -/
def commitFailure (c : Configuration) : Option CommitFailure := (commitChecks c).findSome? id

/-! ### Taking the configuration (R191) -/

/-- Whether a bay's detector is unchanged: node address, channel and four references (R25). -/
def BayCfg.sameDetector (x y : BayCfg) : Bool :=
  decide (x.node = y.node) && decide (x.channel = y.channel) && decide (x.ref0 = y.ref0) && decide (x.ref1 = y.ref1) &&
  decide (x.ref2 = y.ref2) && decide (x.ref3 = y.ref3)

/-- A bay at COMMIT: kept with its runtime fields, or taken anew (R25, R73). -/
def commitBay (s : State) (n : Nat) (c : BayCfg) : Bay :=
  let anew := Bay.fresh c ((c.reference (s.bandRecord c.node).band).getD (c.ref0.getD 0))
  match s.bays.find n with
  | some b => if b.cfg.sameDetector c then { b with cfg := c } else anew
  | none => anew

/-- A ramp pair at COMMIT: kept where both sides are the same (R45). -/
def commitPair (s : State) (n : Nat) (c : PairCfg) : RampPair :=
  match s.pairs.find n with
  | some p => if p.cfg = c then p else RampPair.fresh s.pins n c
  | none => RampPair.fresh s.pins n c

/-- A level at COMMIT (R45). -/
def commitLevel (s : State) (n : Nat) (c : LevelCfg) : Level :=
  match s.levels.find n with
  | some l => { l with cfg := c }
  | none => Level.fresh c

/-- A head at COMMIT (R121). -/
def commitHead (s : State) (n : Nat) (c : HeadCfg) : Head :=
  match s.heads.find n with
  | some h => { h with cfg := c }
  | none => Head.fresh c

/-- A zone at COMMIT (R121). -/
def commitZone (s : State) (n : Nat) (c : ZoneCfg) : Zone :=
  match s.zones.find n with
  | some z => { z with cfg := c }
  | none => Zone.fresh c

/-- A HELD fan leaving HELD with its commanded speed within its record (R144). -/
def Fan.leaveHeld (f : Fan) : Fan :=
  if f.state = .held then
    let speed := if f.cfg.maxSpeed < f.commanded then f.cfg.maxSpeed else if f.commanded < f.cfg.start then 0 else f.commanded
    { f with commanded := speed, state := if 0 < speed then .steady else .stopped }
  else f

/-- A fan at COMMIT: kept, out of HELD, or new (R144). -/
def commitFan (s : State) (n : Nat) (c : FanCfg) : Fan :=
  match s.fans.find n with
  | some f => ({ f with cfg := c } : Fan).leaveHeld
  | none => Fan.fresh c c.dirA

/-- A row at COMMIT: kept where its node address is the same, else taken anew (R92). -/
def commitRow (s : State) (n : Nat) (c : RowCfg) : Row :=
  match s.rows.find n with
  | some r => if r.cfg.node = c.node then ({ r with cfg := c } : Row).rerequested else Row.fresh s.deckTime c
  | none => Row.fresh s.deckTime c

/-- The working copy in force with the records' runtime fields kept or reset; device mode RUN, working copy gone (R191). -/
def mergeWorking (c : Configuration) (s : State) : State :=
  { s with
    control := { s.control with mode := .run, working := none }
    bays := c.bays.mapRecords (commitBay s)
    jitter := c.jitter
    pairs := c.pairs.mapRecords (commitPair s)
    levels := c.levels.mapRecords (commitLevel s)
    rows := c.rows.mapRecords (commitRow s)
    heads := c.heads.mapRecords (commitHead s)
    zones := c.zones.mapRecords (commitZone s)
    fans := c.fans.mapRecords (commitFan s) }

/-- Step 1: LEVEL_FULL or LEVEL_OPEN for each level whose non-staff offered total has moved to or from 0 (R25). -/
def commitTotals (before s : State) : State := forEach (List.range 8) (levelCheck before) s

/-- Step 3: drift states with the new limits and times, then every census pending and checked (R45); the levels are taken in
rising number, the model's choice (log entry 38). -/
def commitCensus (s : State) : State :=
  let levels := s.levels.numbers
  let s1 := forEach levels (fun n s => driftExpire n (updateDrift n s)) s
  forEach levels censusCheck (forEach levels setPending s1)

/-- Step 4: every zone's values, FAILSAFE state and evaluation (R121). -/
def commitAir (s : State) : State := forEach s.zones.numbers (fun n s => evaluateZone n (refreshZone n s)) s

/-- Step 5 for a new fan: its first direction is its due direction, and its fault input is judged (R144, R137). -/
def commitNewFan (ch : Nat) (s : State) : State :=
  let s1 := s.modFan ch fun f => { f with direction := s.dueDirection f }
  if s.pins.fanFault.getLsbD ch then fanToFault ch s1 else s1

/-- Step 5: new fans, requests formed, and the check for reversal of each STOPPED or STEADY fan (R144). The new fans are taken
in rising channel: the model's choice (log entry 38). -/
def commitFans (before s : State) : State :=
  let new := s.fans.numbers.filter fun ch => !before.fans.has ch
  forEach s.fans.numbers beginReversal (handDemands (forEach new commitNewFan s))

/-- Whether a bay node needs a band reset: its current band, or the band of a counted change pending for it, is not covered
by a reference of every defined bay on it (R15). -/
def needsReset (s : State) (node : Nat) : Bool :=
  !bandCovered s node (s.bandRecord node).band ||
  match s.pendingBand node with
  | some p => p.counted && !bandCovered s node p.band
  | none => false

/-- Step 8: the band resets (R15, R169). -/
def commitBands (s : State) : State :=
  forEach ((List.range 128).filter (needsReset s)) (fun a s => makePending a { counted := false, band := 0 } s) s

/-- Step 9: the poll list, and RUNNING from its first entry unless a drain goes on (R170). -/
def commitLoop (list : List Nat) (s : State) : State :=
  startTransaction
    (s.setLoop
      { s.loop with
        pollList := list
        next := firstEntry list
        state := if s.loop.state = .draining then .draining else .running })

/-- A COMMIT whose checks pass, taken whole (R191). -/
def takeConfiguration (c : Configuration) (s : State) : State :=
  let s1 := commitTotals s (mergeWorking c s)
  let s4 := commitAir (commitCensus s1)
  let s7 := compute true (commitFans s s4)
  post .modeChanged 1 0 1 (commitLoop c.pollList (commitBands s7))

/-! ### ENTER_CONFIG (R187) -/

/-- Every row becomes FROZEN (R91). -/
def freezeRows (s : State) : State := { s with rows := s.rows.mapRecords fun _ r => { r with step := .frozen } }

/-- A fan at ENTER_CONFIG: HELD at its commanded speed unless FAULTED or ISOLATED (R142). -/
def Fan.toHeld (f : Fan) : Fan := if f.isLoad then { f with state := .held, rampHeld := false, timer := none } else f

/-- Every fan not FAULTED or ISOLATED becomes HELD (R142). -/
def holdFans (s : State) : State := { s with fans := s.fans.mapRecords fun _ f => f.toHeld }

/-- ENTER_CONFIG, taken whole (R187). -/
def enterConfig (s : State) : State :=
  let s1 := s.setControl { s.control with mode := .config, working := some s.inForce }
  post .modeChanged 0 1 0 (holdFans (freezeRows (stopWalk (emptyGuidance s1))))

end Sys2Proof.Machine
end

