-- ==== Sys2Proof/Machine/Commands.lean ====
section
/-! DEFINITION. What each station command does once it is taken, has a code of the table, is of the caller's class and has a
payload of the right length: its mode, busy, range, existence and state checks in that order, its effect, and the status
and contents of its response or responses (R176 step 5 and the owning rules). -/

namespace Sys2Proof.Machine

/-- The responses a command gives: status and contents of each frame, oldest first; none where a restart loses them. -/
abbrev Answers := List (Status × List Byte)

/-- A command's effect: the state it leaves and its responses. -/
abbrev Effect := State × Answers

/-- One response with a status and contents. -/
def answer (s : State) (status : Status) (contents : List Byte) : Effect := (s, [(status, contents)])

/-- A response DONE. -/
def done (s : State) (contents : List Byte) : Effect := answer s .done contents

/-- A refusal with no contents; nothing changes. -/
def refuse (s : State) (status : Status) : Effect := answer s status []

/-- The checks of a command, in order, each with whether it fails and its status; the first that fails refuses (R176). -/
def checked (s : State) (checks : List (Bool × Status)) (k : Effect) : Effect :=
  match checks.find? (·.1) with
  | some c => refuse s c.2
  | none => k

/-- DONE, or DONE_CLAMPED where an operand was clamped. -/
def clampedStatus (clamped : Bool) : Status := if clamped then .doneClamped else .done

/-! ### Reads and masks (chapter 9) -/

/-- READ_STATUS (R178). -/
def doReadStatus (st : Station) (s : State) : Effect :=
  done (s.setPort st { s.port st with eventOverrun := false }) (statusContents s st)

/-- READ_EVENTS (R182). -/
def doReadEvents (st : Station) (count : Nat) (s : State) : Effect :=
  let p := s.port st
  checked s [(!within 1 6 count, .badArgument)]
    (done (s.setPort st { p with events := p.events.drop count, eventOverrun := false }) (eventsContents p count))

/-- SET_EVENT_MASK (R183). -/
def doSetEventMask (st : Station) (mask : Nat) (s : State) : Effect :=
  let p := s.port st
  checked s [(s.writing, .busy), (decide (268435456 ≤ mask), .badArgument)]
    (done (s.setPort st { p with mask := BitVec.ofNat 32 mask }) (leBytes 4 p.mask.toNat))

/-- READ_RECORD (R184). -/
def doReadRecord (kind number part : Nat) (s : State) : Effect :=
  checked s [(!readFits kind number part, .badArgument)]
    (match readOut s kind number with
    | some words => done s (recordContents kind number part words)
    | none => refuse s .notFound)

/-- READ_QUEUE (R72, R185). -/
def doReadQueue (page : Nat) (s : State) : Effect :=
  done s (pageCounts s.guidance.queue page ++ (pageOf s.guidance.queue page).flatMap Request.bytes)

/-- READ_HOLDS (R72, R185). -/
def doReadHolds (page : Nat) (s : State) : Effect :=
  done s (pageCounts s.guidance.holds page ++ (pageOf s.guidance.holds page).flatMap Hold.bytes)

/-- READ_LOADS: one frame, or two when the page returns five or more entries (R158, R185). -/
def doReadLoads (page : Nat) (s : State) : Effect :=
  let entries := pageOf (loadEntries s) page
  let head := loadsHeader s ++ pageCounts (loadEntries s) page
  if 5 ≤ entries.length then (s, [(.done, head ++ (entries.take 4).flatten), (.done, (entries.drop 4).flatten)])
  else done s (head ++ entries.flatten)

/-! ### Modes and configuration (chapter 10) -/

/-- ENTER_CONFIG (R187). -/
def doEnterConfig (s : State) : Effect :=
  checked s [(!s.inRun, .refusedMode), (s.writing, .busy)]
    (done (enterConfig s) (leBytes 1 s.guidance.queue.length ++ leBytes 1 s.guidance.holds.length))

/-- The working copy; in CONFIG mode there is one (section 10.2). -/
def State.workingCopy (s : State) : Configuration := s.control.working.getD Configuration.empty

/-- Replaces the working copy. -/
def State.setWorking (s : State) (c : Configuration) : State := s.setControl { s.control with working := some c }

/-- COMMIT (R190, R191). -/
def doCommit (s : State) : Effect :=
  checked s [(s.inRun, .refusedMode), (s.writing, .busy)]
    (match commitFailure s.workingCopy with
    | some f => answer s .badConfig (leBytes 1 f.check ++ leBytes 1 f.kind ++ leBytes 2 f.number)
    | none => done (takeConfiguration s.workingCopy s) [])

/-- STORE_PROFILE (R192): the old profile is overwritten from its first word, and the write timer of 5.0 s starts. -/
def doStoreProfile (s : State) : Effect :=
  checked s [(s.writing, .busy)]
    (answer
      (s.setControl
        { s.control with
          profileValid := false
          store := none
          write := some { started := s.deckTime, expires := Time.plus s.deckTime 50, contents := profileOf s } })
      .accepted [])

/-- RESTART (R194): its response is lost with the response buffer. -/
def doRestart (operand : Nat) (s : State) : Effect :=
  if operand = 0 then (fullRestart .hardCommand s, [])
  else if operand = 1 then checked s [(s.writing, .busy)] (softRestart s, [])
  else refuse s .badArgument

/-- DEFINE (R188). -/
def doDefine (kind number : Nat) (fields : List Nat) (s : State) : Effect :=
  checked s [(s.inRun, .refusedMode), (s.writing, .busy), (!kindAndNumberFit kind number, .badArgument)]
    (match s.workingCopy.define kind number fields with
    | some (c, replaced) => done (s.setWorking c) (leBytes 1 (bit replaced))
    | none => refuse s .badArgument)

/-- The DELETE of a fan in force sets its channel's commanded speed to 0 at once (R144). -/
def stopDeletedFan (kind number : Nat) (s : State) : State :=
  if kind = 9 then s.modFan number fun f => { f with commanded := 0 } else s

/-- DELETE (R188, R144). -/
def doDelete (kind number : Nat) (s : State) : Effect :=
  checked s [(s.inRun, .refusedMode), (s.writing, .busy), (!kindAndNumberFit kind number, .badArgument)]
    (match s.workingCopy.delete kind number with
    | some c => done (stopDeletedFan kind number (s.setWorking c)) []
    | none => refuse s .notFound)

/-- SET_POLL_LIST (R189). More than 128 entries are judged as a range, after mode and busy (log entry 42). -/
def doSetPollList (position : Nat) (entries : List Nat) (s : State) : Effect :=
  let list := s.workingCopy.pollList
  checked s [(s.inRun, .refusedMode), (s.writing, .busy), (!pollPieceFits list position entries, .badArgument)]
    (done (s.setWorking { s.workingCopy with pollList := pollPieceWritten list position entries })
      (leBytes 2 (pollPieceWritten list position entries).length))

/-! ### Allocation tables (chapter 3) -/

/-- SET_CLASS_TABLE (R57): the change calls for a pass (R54). The order of its entries is log entry 44 (DEDUCED). -/
def doSetClassTable (entries : List Nat) (s : State) : Effect :=
  checked s [(s.inRun, .refusedMode), (s.writing, .busy), (!entries.all (fun e => decide (e ≤ 2)), .badArgument)]
    (done (allocationPass (s.setGuidance { s.guidance with classTable := entries })) [])

/-- SET_PENALTY (R58): the change calls for a pass (R54). -/
def doSetPenalty (penalties : List Nat) (s : State) : Effect :=
  checked s [(s.inRun, .refusedMode), (s.writing, .busy), (!penalties.all (fun e => decide (e ≤ 65534)), .badArgument)]
    (done (allocationPass (s.setGuidance { s.guidance with penalties := penalties })) [])

/-- SET_GUIDANCE_TIMES (R59). -/
def doSetGuidanceTimes (maxWait holdTime substitution : Nat) (s : State) : Effect :=
  let w := clamp 60 3600 maxWait
  let h := clamp 60 900 holdTime
  checked s [(s.writing, .busy), (!within 0 1 substitution, .badArgument)]
    (answer
      (s.setGuidance { s.guidance with maxWait := w, holdTime := h, substitution := decide (substitution = 1) })
      (clampedStatus (decide (w ≠ maxWait) || decide (h ≠ holdTime))) (leBytes 2 w ++ leBytes 2 h ++ leBytes 1 substitution))

/-! ### Supply (chapter 7) -/

/-- SET_ALLOWANCE (R149). -/
def doSetAllowance (normal shed : Nat) (s : State) : Effect :=
  let n := clamp 1000 2000000 normal
  let d := clamp 1000 2000000 shed
  let s1 := s.setSupply { s.supply with normal := n, shed := d }
  checked s [(s.writing, .busy)]
    (answer (settle s s1) (clampedStatus (decide (n ≠ normal) || decide (d ≠ shed)))
      (leBytes 4 n ++ leBytes 4 d ++ leBytes 1 (bit s.pins.shed) ++ leBytes 4 s1.allowance))

/-! ### Air quality (chapter 5) -/

/-- SET_STAGE_TABLE (R110); the zones are then evaluated in rising number, the model's choice (log entry 38). -/
def doSetStageTable (stages : List StageRow) (hysteresis dwell : Nat) (s : State) : Effect :=
  let s1 := { s with stageTable := { stages := stages, hysteresis := hysteresis, dwell := dwell } }
  checked s [(s.inRun, .refusedMode), (s.writing, .busy), (!stageTableFits stages hysteresis dwell, .badArgument)]
    (done (forEach s1.zones.numbers evaluateZone s1) [])

/-- A level record with another traffic range table (R116). -/
def LevelCfg.withTraffic (c : LevelCfg) (t : List (Option TrafficRange)) : LevelCfg := { c with traffic := t }

/-- The traffic range table of a level written in force and, in CONFIG mode, in the working copy (R116). -/
def writeTraffic (level : Nat) (t : List (Option TrafficRange)) (s : State) : State :=
  let s1 := s.modLevel level fun l => { l with cfg := l.cfg.withTraffic t }
  if s.inRun then s1
  else s1.setWorking { s1.workingCopy with levels := s1.workingCopy.levels.modify level (LevelCfg.withTraffic · t) }

/-- SET_TRAFFIC_TABLE (R116). -/
def doSetTrafficTable (level : Nat) (slots : List SlotOperand) (s : State) : Effect :=
  let there := if s.inRun then s.levels.has level else s.workingCopy.levels.has level
  checked s [(s.writing, .busy), (!(within 0 7 level && slots.all slotFits), .badArgument), (!there, .notFound)]
    (done (settle s (writeTraffic level (slots.map slotRange) s)) [])

/-- The end of an override by a VENT_OVERRIDE of duration 0 (R113). -/
def cancelOverride (zone : Nat) (s : State) : State :=
  match s.zones.find zone with
  | none => s
  | some z =>
    match z.override with
    | none => s
    | some o => post .overrideEnded zone 1 o.demand (s.modZone zone fun z => { z with override := none })

/-- VENT_OVERRIDE (R113). -/
def doVentOverride (zone demand duration : Nat) (s : State) : Effect :=
  let d := clamp 1 100 demand
  let t := min 14400 duration
  checked s [(!s.inRun, .refusedMode), (!within 0 11 zone, .badArgument), (!s.zones.has zone, .notFound)]
    (if duration = 0 then
      done (settle s (cancelOverride zone s)) (leBytes 1 zone ++ leBytes 1 0 ++ leBytes 2 0)
    else
      answer
        (settle s
          (s.modZone zone fun z => { z with override := some { demand := d, expires := Time.plus s.deckTime (t * 10) } }))
        (clampedStatus (decide (d ≠ demand) || decide (t ≠ duration)))
        (leBytes 1 zone ++ leBytes 1 d ++ leBytes 2 t))

/-! ### Fans (chapter 6) -/

/-- A flow pattern of its code: A 0, B 1. -/
def patternOf (code : Nat) : Pattern := if code = 0 then .a else .b

/-- The fans in force of a zone, by channel. -/
def zoneFans (s : State) (zone : Nat) : List Nat :=
  (s.fans.filter fun p => decide (p.2.cfg.zone = zone)).map (·.1)

/-- Whether a fan is reversing. -/
def Fan.reversing (f : Fan) : Bool := decide (f.state = .reversingDown) || decide (f.state = .reverseDwell)

/-- The fans of a list that are reversing. -/
def reversingAmong (s : State) (channels : List Nat) : Nat :=
  channels.countP fun ch =>
    match s.fans.find ch with
    | some f => f.reversing
    | none => false

/-- The pattern of a zone stored and the reversals of its fans begun (R136). -/
def setPattern (zone : Nat) (p : Pattern) (s : State) : State :=
  let s1 := s.modZone zone fun z => { z with pattern := p }
  forEach (zoneFans s1 zone) beginReversal s1

/-- SET_FLOW_PATTERN (R136). -/
def doSetFlowPattern (zone pattern : Nat) (s : State) : Effect :=
  checked s [(!s.inRun, .refusedMode), (s.writing, .busy), (!(within 0 11 zone && within 0 1 pattern), .badArgument)]
    (match s.zones.find zone with
    | none => refuse s .notFound
    | some z =>
      let s1 := setPattern zone (patternOf pattern) s
      done s1
        (leBytes 1 z.pattern.code ++ leBytes 1 (reversingAmong s1 (zoneFans s zone) - reversingAmong s (zoneFans s zone))))

/-- A fan that leaves FAULTED or ISOLATED with its input released: STOPPED in RUN, where it is checked for reversal and the
computation its return calls for hands it a grant; HELD at 0 in CONFIG (R138, R140, R146). -/
def fanReturn (ch : Nat) (s : State) : State :=
  if s.inRun then settle s (beginReversal ch (s.modFan ch fun f => { f with state := .stopped }))
  else s.modFan ch fun f => { f with state := .held }

/-- The code of the state a returning fan enters (R138, R140). -/
def returnCode (s : State) : Nat := if s.inRun then FanState.stopped.code else FanState.held.code

/-- CLEAR_FAN (R138). -/
def doClearFan (ch : Nat) (s : State) : Effect :=
  checked s [(!within 0 23 ch, .badArgument)]
    (match s.fans.find ch with
    | none => refuse s .notFound
    | some f =>
      let input := s.pins.fanFault.getLsbD ch
      if f.state = .faulted ∧ input = false then done (fanReturn ch s) (leBytes 1 (returnCode s))
      else answer s .refusedState (leBytes 1 f.state.code ++ leBytes 1 (bit input)))

/-- A fan taken out of the loads by a change, with the retry its decrease of draw calls for and the computation its leaving
calls for (R137 step 4, R139, R146, R150, R157). -/
def leaveLoads (before s : State) : State := settle before (retryOnDecrease before s)

/-- ISOLATE_FAN (R139). -/
def doIsolateFan (ch : Nat) (s : State) : Effect :=
  checked s [(!within 0 23 ch, .badArgument)]
    (match s.fans.find ch with
    | none => refuse s .notFound
    | some f =>
      if f.state = .isolated then done s (leBytes 1 f.state.code)
      else done (leaveLoads s (s.modFan ch fun f => f.withdrawn .isolated)) (leBytes 1 f.state.code))

/-- RESTORE_FAN (R140). -/
def doRestoreFan (ch : Nat) (s : State) : Effect :=
  checked s [(!within 0 23 ch, .badArgument)]
    (match s.fans.find ch with
    | none => refuse s .notFound
    | some f =>
      if f.state = .isolated then
        if s.pins.fanFault.getLsbD ch then done (fanToFault ch s) (leBytes 1 FanState.faulted.code)
        else done (fanReturn ch s) (leBytes 1 (returnCode s))
      else answer s .refusedState (leBytes 1 f.state.code))

/-- MANUAL_FAN (R143). -/
def doManualFan (ch speed : Nat) (s : State) : Effect :=
  checked s [(s.inRun, .refusedMode), (!(within 0 23 ch && within 0 100 speed), .badArgument),
      (!s.workingCopy.fans.has ch, .notFound)]
    (match s.fans.find ch with
    | none => refuse s .notFound
    | some f =>
      if f.state = .held then
        let v := if speed = 0 then 0 else clamp f.cfg.start f.cfg.maxSpeed speed
        answer (s.modFan ch fun f => { f with commanded := v }) (clampedStatus (decide (v ≠ speed))) (leBytes 1 v)
      else answer s .refusedState (leBytes 1 f.state.code))

/-! ### Census (chapter 2) -/

/-- The level count as it stands. -/
def State.levelCount (s : State) (level : Nat) : Nat := ((s.levels.find level).map (·.count)).getD 0

/-- Whether a level's census is pending. -/
def State.censusPending (s : State) (level : Nat) : Bool := ((s.levels.find level).map (·.pending)).getD false

/-- CENSUS (R39). -/
def doCensus (level : Nat) (s : State) : Effect :=
  checked s [(!s.inRun, .refusedMode), (!within 0 7 level, .badArgument), (!s.levels.has level, .notFound)]
    (if s.censusPending level then done s (leBytes 1 1 ++ leBytes 2 (s.levelCount level))
    else
      let s1 := censusCheck level (setPending level s)
      done (settle s s1) (leBytes 1 (if s1.censusPending level then 0 else 2) ++ leBytes 2 (s1.levelCount level)))

/-! ### Light levels (chapter 4) -/

/-- Whether SET_LIGHT_LEVELS for `row` writes row `n`: that row, or every row in force for 255 (R89). -/
def lightTarget (row n : Nat) : Bool := decide (row = 255) || decide (row = n)

/-- The values of SET_LIGHT_LEVELS written to the rows in force and, in CONFIG mode, to their edited copies (R89). -/
def writeLight (row : Nat) (v : LightLevels) (s : State) : State :=
  let s1 := { s with
    fade := v.fade
    rows := s.rows.mapRecords fun n r => if lightTarget row n then ({ r with cfg := r.cfg.withLight v } : Row).rerequested else r }
  if s.inRun then s1
  else
    s1.setWorking
      { s1.workingCopy with
        rows := s1.workingCopy.rows.mapRecords fun n c => if lightTarget row n && s.rows.has n then c.withLight v else c }

/-- SET_LIGHT_LEVELS (R89). -/
def doSetLightLevels (row base active hold fade : Nat) (s : State) : Effect :=
  let v := clampLight base active hold fade
  let there := if row = 255 then !s.rows.isEmpty else s.rows.has row
  checked s [(s.writing, .busy), (!(within 0 63 row || decide (row = 255)), .badArgument), (!there, .notFound)]
    (answer (settle s (writeLight row v s))
      (clampedStatus
        (decide (v.base ≠ base) || decide (v.active ≠ active) || decide (v.hold ≠ hold) || decide (v.fade ≠ fade)))
      (leBytes 1 row ++ leBytes 1 v.base ++ leBytes 1 v.active ++ leBytes 2 v.hold ++ leBytes 1 v.fade))

/-! ### Requests and holds (chapter 3) -/

/-- The state after a REQUEST_BAY has issued its ticket, placed its request and run its pass (R49). -/
def placeRequest (st : Station) (cls lane : Nat) (priority : Bool) (s : State) : State :=
  let t := issueTicket s.guidance
  let r : Request :=
    { ticket := t, station := st, cls := cls, lane := lane, priority := priority, enqueued := s.deckTime,
      deadline := Time.plus s.deckTime (s.guidance.maxWait * 10) }
  settle s
    (allocationPassFor (some t) (s.setGuidance { s.guidance with lastTicket := t, queue := enqueue r s.guidance.queue }))

/-- The outcome a REQUEST_BAY reports for its ticket: ASSIGNED with bay, level and row, or QUEUED with its position (R49). -/
def requestOutcome (s : State) (t : Nat) : List Byte :=
  match findHold s.guidance.holds t with
  | some h =>
    leBytes 1 0 ++ leBytes 2 h.bay ++ leBytes 1 h.level ++ leBytes 1 (((s.bays.find h.bay).map (·.cfg.row)).getD 0)
  | none => leBytes 1 1 ++ leBytes 1 (queuePosition s.guidance.queue t)

/-- REQUEST_BAY (R49). -/
def doRequestBay (st : Station) (cls lane priority : Nat) (s : State) : Effect :=
  let fits := within 0 3 cls && within 0 3 lane && within 0 1 priority && !(decide (priority = 1) && decide (st = .lane))
  checked s [(!s.inRun, .refusedMode), (!fits, .badArgument), (decide (32 ≤ s.guidance.queue.length), .queueFull)]
    (let t := issueTicket s.guidance
     let s1 := placeRequest st cls lane (decide (priority = 1)) s
     done s1 (leBytes 2 t ++ requestOutcome s1 t))

/-- WITHDRAW (R51). -/
def doWithdraw (st : Station) (t : Nat) (s : State) : Effect :=
  checked s [(decide (t = 0), .badArgument)]
    (match findRequest s.guidance.queue t with
    | some r =>
      let s1 := removeRequest t s
      done (if r.station = st then s1 else postTo r.station .requestLapsed t 2 r.lane s1)
        (leBytes 1 (queuePosition s.guidance.queue t))
    | none =>
      match findHold s.guidance.holds t with
      | some h => answer s .refusedState (leBytes 2 h.bay)
      | none => refuse s .notFound)

/-- The request of a station nearest the tail of the queue (R52). -/
def newestOf (st : Station) (q : List Request) : Option Request := q.reverse.find? fun r => decide (r.station = st)

/-- WITHDRAW_NEWEST (R52). -/
def doWithdrawNewest (st : Station) (s : State) : Effect :=
  match newestOf st s.guidance.queue with
  | some r => done (removeRequest r.ticket s) (leBytes 2 r.ticket ++ leBytes 1 (queuePosition s.guidance.queue r.ticket))
  | none => refuse s .notFound

/-- CANCEL_HOLD (R65). -/
def doCancelHold (t : Nat) (s : State) : Effect :=
  checked s [(decide (t = 0), .badArgument)]
    (match findHold s.guidance.holds t with
    | some h => done (settle s (allocationPass (lapseHold h .opened 1 s))) (leBytes 2 h.bay)
    | none =>
      match findRequest s.guidance.queue t with
      | some _ => refuse s .refusedState
      | none => refuse s .notFound)

/-- QUEUE_COUNT (R53). -/
def doQueueCount (st : Station) (s : State) : Effect :=
  let own := s.guidance.queue.filter fun r => decide (r.station = st)
  done s
    (leBytes 1 s.guidance.queue.length ++ leBytes 1 own.length ++
      own.flatMap fun r => leBytes 2 r.ticket ++ leBytes 1 (queuePosition s.guidance.queue r.ticket))

/-! ### Claims and closures (chapter 3) -/

/-- CLAIM_BAY (R68). -/
def doClaimBay (st : Station) (bay expected : Nat) (s : State) : Effect :=
  checked s [(!(within 0 1023 bay && expectable expected), .badArgument)]
    (match s.bays.find bay with
    | none => refuse s .notFound
    | some b =>
      if b.admin.code = expected then done (setAdmin bay (.claimed st) s) (leBytes 1 b.admin.code)
      else answer s .mismatch (leBytes 1 b.admin.code ++ leBytes 1 b.sensed.code))

/-- The state after a CLOSE_BAY of a bay in force, and the ticket of the hold it ended, 0 for none (R70, R66). -/
def closeBay (bay : Nat) (b : Bay) (s : State) : State × Nat :=
  match b.admin with
  | .held t =>
    match findHold s.guidance.holds t with
    | some h => (settle s (allocationPass (lapseHold h .closed 2 s)), t)
    | none => (setAdmin bay .closed s, 0)
  | .opened => (setAdmin bay .closed s, 0)
  | .claimed _ => (setAdmin bay .closed s, 0)
  | .closed => (s, 0)

/-- CLOSE_BAY (R70). -/
def doCloseBay (bay : Nat) (s : State) : Effect :=
  checked s [(!within 0 1023 bay, .badArgument)]
    (match s.bays.find bay with
    | none => refuse s .notFound
    | some b => let r := closeBay bay b s; done r.1 (leBytes 1 b.admin.code ++ leBytes 2 r.2))

/-- A bay taken to OPEN by RELEASE_CLAIM or OPEN_BAY, with the pass it calls for (R71, R54). -/
def reopenBay (bay : Nat) (s : State) : State := settle s (allocationPass (setAdmin bay .opened s))

/-- RELEASE_CLAIM (R71). -/
def doReleaseClaim (bay : Nat) (s : State) : Effect :=
  checked s [(!within 0 1023 bay, .badArgument)]
    (match s.bays.find bay with
    | none => refuse s .notFound
    | some b =>
      match b.admin with
      | .claimed st => done (reopenBay bay s) (leBytes 1 (Station.code st))
      | .opened => answer s .refusedState (leBytes 1 b.admin.code)
      | .held _ => answer s .refusedState (leBytes 1 b.admin.code)
      | .closed => answer s .refusedState (leBytes 1 b.admin.code))

/-- OPEN_BAY (R71). -/
def doOpenBay (bay : Nat) (s : State) : Effect :=
  checked s [(!within 0 1023 bay, .badArgument)]
    (match s.bays.find bay with
    | none => refuse s .notFound
    | some b =>
      if b.admin = .closed then done (reopenBay bay s) []
      else answer s .refusedState (leBytes 1 b.admin.code))

end Sys2Proof.Machine
end

