-- ==== Sys2Proof/Machine/Ports.lean ====
section
/-! DEFINITION. The station ports: judging a taken entry, taking entries, arrivals, transactions and read-outs (sections 9.1
to 9.3). -/

namespace Sys2Proof.Machine

/-! ### Classes (R176, section 9.2) -/

/-- Whether a station is of the class of a code of the table: All, S, L or G. -/
def inClass (code : Nat) (st : Station) : Bool :=
  if code ≤ 0x07 then true
  else if code ≤ 0x2B then decide (st = .supervisor)
  else if code ≤ 0x34 then decide (st = .lane) || decide (st = .guidance)
  else decide (st = .guidance) || decide (st = .supervisor)

/-! ### Judging an entry (R176) -/

/-- A command carried out by the block that owns it (R176 step 5). -/
def execute (st : Station) (c : Command) (s : State) : Effect :=
  match c with
  | .readStatus => doReadStatus st s
  | .readEvents count => doReadEvents st count s
  | .setEventMask mask => doSetEventMask st mask s
  | .readRecord kind number part => doReadRecord kind number part s
  | .readQueue page => doReadQueue page s
  | .readHolds page => doReadHolds page s
  | .readLoads page => doReadLoads page s
  | .enterConfig => doEnterConfig s
  | .commit => doCommit s
  | .storeProfile => doStoreProfile s
  | .restart operand => doRestart operand s
  | .define kind number fields => doDefine kind number fields s
  | .delete kind number => doDelete kind number s
  | .setPollList position entries => doSetPollList position entries s
  | .setClassTable entries => doSetClassTable entries s
  | .setPenalty penalties => doSetPenalty penalties s
  | .setAllowance normal shed => doSetAllowance normal shed s
  | .setStageTable stages hysteresis dwell => doSetStageTable stages hysteresis dwell s
  | .setTrafficTable level slots => doSetTrafficTable level slots s
  | .ventOverride zone demand duration => doVentOverride zone demand duration s
  | .setFlowPattern zone pattern => doSetFlowPattern zone pattern s
  | .clearFan channel => doClearFan channel s
  | .isolateFan channel => doIsolateFan channel s
  | .restoreFan channel => doRestoreFan channel s
  | .manualFan channel speed => doManualFan channel speed s
  | .census level => doCensus level s
  | .setLightLevels row base active hold fade => doSetLightLevels row base active hold fade s
  | .setGuidanceTimes maxWait holdTime substitution => doSetGuidanceTimes maxWait holdTime substitution s
  | .requestBay cls lane priority => doRequestBay st cls lane priority s
  | .withdraw ticket => doWithdraw st ticket s
  | .withdrawNewest => doWithdrawNewest st s
  | .cancelHold ticket => doCancelHold ticket s
  | .queueCount => doQueueCount st s
  | .claimBay bay expected => doClaimBay st bay expected s
  | .releaseClaim bay => doReleaseClaim bay s
  | .closeBay bay => doCloseBay bay s
  | .openBay bay => doOpenBay bay s

/-- The tag and the command code an entry's response echoes; code 0 for a bad frame (R176). -/
def entryEcho : Entry → Nat × Nat
  | .command tag c => (tag, c.code)
  | .unknown tag code => (tag, code)
  | .misfit tag code => (tag, code)
  | .badFrame tag => (tag, 0)

/-- The five checks of R176 on a taken entry, and the effect of the command that passes them. -/
def judgeEntry (st : Station) (e : Entry) (s : State) : Effect :=
  match e with
  | .badFrame _ => refuse s .badFrame
  | .unknown _ _ => refuse s .unknownCommand
  | .misfit _ code => checked s [(!inClass code st, .refusedClass)] (refuse s .badArgument)
  | .command _ c => checked s [(!inClass c.code st, .refusedClass), (!c.lengthFits, .badArgument)] (execute st c s)

/-! ### Taking entries (R175) -/

/-- The response slots an entry needs: two for READ_LOADS, one for every other (R175). -/
def slotsNeeded (e : Entry) : Nat := if (entryEcho e).2 = 0x07 then 2 else 1

/-- The response frames of an entry's answers, with the port flags as each is built: the command-overrun flag in the first
alone, since it is then cleared, and MORE in the first of two (R175, R177). -/
def responsesOf (st : Station) (e : Entry) (overrun : Bool) (s : State) : Answers → List Response
  | [] => []
  | (status, contents) :: rest =>
    { tag := (entryEcho e).1, code := (entryEcho e).2, status := status, flags := flagsNow s st overrun (!rest.isEmpty),
      contents := contents } :: responsesOf st e false s rest

/-- The responses of a taken entry placed at the newest end of its port's buffer; the command-overrun flag is cleared. With
no answer nothing is placed: a restart has emptied the port (R181). -/
def placeResponses (st : Station) (e : Entry) (overrun : Bool) (out : Effect) : State :=
  match out.2 with
  | [] => out.1
  | answers =>
    let p := out.1.port st
    out.1.setPort st { p with responses := p.responses ++ responsesOf st e overrun out.1 answers, overrun := false }

/-- Takes an entry: it leaves the buffer, is judged and carried out, and its responses are placed (R175). -/
def takeEntry (st : Station) (e : Entry) (rest : List Entry) (s : State) : State :=
  let overrun := (s.port st).overrun
  placeResponses st e overrun (judgeEntry st e (s.setPort st { s.port st with commands := rest }))

/-- Whether the response buffer of a port has room for an entry's response (R175). -/
def hasRoom (p : Port) (e : Entry) : Bool := decide (p.responses.length + slotsNeeded e ≤ 2)

/-- Takes the entries of a port, oldest first, as long as there is room for the oldest one's response (R175). -/
def takeEntries (st : Station) : Nat → State → State
  | 0, s => s
  | fuel + 1, s =>
    match (s.port st).commands with
    | [] => s
    | e :: rest => if hasRoom (s.port st) e then takeEntries st fuel (takeEntry st e rest s) else s

/-- Takes what a port can take now; a port holds at most two entries (R173, R175). -/
def takeReady (st : Station) (s : State) : State := takeEntries st (s.port st).commands.length s

/-! ### Arrivals (R173) -/

/-- A frame that completes: it enters the command buffer, and is taken if room stands; with two entries there it is
discarded and the command-overrun flag is set (R173, R175). -/
def arrive (st : Station) (e : Entry) (s : State) : State :=
  let p := s.port st
  if p.commands.length < 2 then takeReady st (s.setPort st { p with commands := p.commands ++ [e] })
  else s.setPort st { p with overrun := true }

/-- An arrival at a part that is not held in restart (R193). -/
def receive (st : Station) (e : Entry) (s : State) : State := if s.control.resetHeld then s else arrive st e s

/-! ### Transactions (R173, R174) -/

/-- The fall of SEL: the port fixes its oldest response, or the empty frame (R174). While RESET_N holds the part the
transaction is one it takes no part in. -/
def selFalls (st : Station) (s : State) : State :=
  let p := s.port st
  match p.transaction with
  | .idle =>
    if s.control.resetHeld then s.setPort st { p with transaction := .abandoned }
    else s.setPort st { p with transaction := .active p.responses.head? false }
  | .active _ _ => s
  | .abandoned => s

/-- The bytes shifted in so far complete the transaction's frame (R173); a first byte of 0 means no command. -/
def frameBytes (st : Station) (bytes : List Byte) (s : State) : State :=
  let p := s.port st
  match p.transaction with
  | .active out false =>
    let closed := s.setPort st { p with transaction := .active out true }
    match decodeFrame bytes with
    | some e => arrive st e closed
    | none => if bytes.head? = some 0x00#8 then closed else s
  | .active _ true => s
  | .idle => s
  | .abandoned => s

/-- The last CRC byte of the fixed response goes out: it is removed, and a waiting command may be taken (R174). -/
def readOutDone (st : Station) (s : State) : State :=
  let p := s.port st
  match p.transaction with
  | .active (some _) past =>
    takeReady st (s.setPort st { p with responses := p.responses.drop 1, transaction := .active none past })
  | .active none _ => s
  | .idle => s
  | .abandoned => s

/-- The rise of SEL: the transaction ends; a bad length with no second byte makes a bad-frame entry with tag 0, and a frame
cut short is discarded (R173). -/
def selRises (st : Station) (shiftedIn : List Byte) (s : State) : State :=
  let p := s.port st
  let ended := s.setPort st { p with transaction := .idle }
  match p.transaction with
  | .active _ false =>
    match entryAtRise shiftedIn with
    | some e => arrive st e ended
    | none => ended
  | .active _ true => ended
  | .idle => s
  | .abandoned => ended

end Sys2Proof.Machine
end

