-- ==== Sys2Proof/Machine/BlockEvents.lean ====
section
/-! DEFINITION. The meanings of the rows that no station commands: ramp inputs and the census timers, the field loop, the
timers of allocation, rows, air and fans, the supply and fault inputs, the profile store, restarts and deck time. An expiry
of a timer that is not running, or not yet at its expiry, leaves the part as it is. -/

namespace Sys2Proof.Machine

/-- A step of a part that RESET_N does not hold in restart; a part that is held takes no step (R193). -/
def whenRunning (f : State → State) (s : State) : State := if s.control.resetHeld then s else f s

/-! ### Ramps and census (chapter 2) -/

/-- A ramp input at a new level. -/
def Pins.withRamp (p : Pins) (pair : Nat) (side : LoopSide) (high : Bool) : Pins :=
  let set := fun (w : BitVec 16) => if high then w ||| (1#16 <<< pair) else w &&& ~~~(1#16 <<< pair)
  match side with
  | .a => { p with rampA := set p.rampA }
  | .b => { p with rampB := set p.rampB }

/-- The level of a ramp input. -/
def Pins.ramp (p : Pins) (pair : Nat) : LoopSide → Bool
  | .a => p.rampA.getLsbD pair
  | .b => p.rampB.getLsbD pair

/-- The settle timer of a pair started or restarted: 0.1 s (R28). -/
def startSettle (pair : Nat) (s : State) : State :=
  s.modPair pair fun p => { p with settle := some (Time.plus s.deckTime 1) }

/-- A ramp input changes; the settle timer of a defined pair starts or restarts (R28). -/
def execRampInputChange (pair : Fin 16) (side : LoopSide) (high : Bool) (s : State) : Host.Outcome State Fault Refusal :=
  .next
    (if s.pins.ramp pair side = high then s
    else whenRunning (startSettle pair) { s with pins := s.pins.withRamp pair side high })

/-- A settle timer expires (R28 to R32). -/
def execSettleTimerExpiry (pair : Nat) (s : State) : Host.Outcome State Fault Refusal :=
  .next (whenRunning (fun s => settle s (settleExpire pair s)) s)

/-- Every level's ring advanced, and the minute timer started again (R37). -/
def censusMinute (s : State) : State :=
  { s with
    censusMinute := Time.plus s.censusMinute 600
    levels := s.levels.mapRecords fun _ l => { l with ring := advanceRing l.ring } }

/-- The census unit's minute timer expires (R37). -/
def execCensusMinuteTimerExpiry (s : State) : Host.Outcome State Fault Refusal :=
  .next (whenRunning (fun s => if Time.reached s.deckTime s.censusMinute then settle s (censusMinute s) else s) s)

/-- A census set pending on every level, and each level checked (R41), in rising level number: the model's choice (log entry
38). -/
def startCensus (s : State) : State :=
  let s1 := { s with censusStart := none, levels := s.levels.mapRecords fun _ l => { l with pending := true } }
  forEach s1.levels.numbers censusCheck s1

/-- The start timer expires (R41). -/
def execCensusStartTimerExpiry (s : State) : Host.Outcome State Fault Refusal :=
  .next (whenRunning (fun s => if timerDue s.deckTime s.censusStart then settle s (startCensus s) else s) s)

/-- A level's drift timer expires (R42). -/
def execDriftTimerExpiry (level : Nat) (s : State) : Host.Outcome State Fault Refusal :=
  .next (whenRunning (driftExpire level) s)

/-! ### The field loop (chapter 8) -/

/-- The last request character is out: the line is released and the reply timer starts (R161, R164). -/
def requestSent (s : State) : State :=
  match s.loop.current with
  | some t => s.setLoop { s.loop with current := some { t with sent := true } }
  | none => s

/-- The last request character has been sent (R164). -/
def execFieldRequestSent (s : State) : Host.Outcome State Fault Refusal := .next (whenRunning requestSent s)

/-- Reply characters taken: with the number the kind calls for the transaction ends; with fewer they are kept. Characters
that come while the request is being sent, or with no transaction in flight, are not taken (R161, R164). -/
def replyCharacters (chars : List FieldChar) (s : State) : State :=
  match s.loop.current with
  | none => s
  | some t =>
    if t.sent then
      let all := t.received ++ chars
      if t.request.replyLength ≤ all.length then finishTransaction (all.take t.request.replyLength) s
      else s.setLoop { s.loop with current := some { t with received := all } }
    else s

/-- The reply characters a transaction still awaits arrive (R164). -/
def execFieldReplyReceived (chars : List FieldChar) (s : State) : Host.Outcome State Fault Refusal :=
  .next (whenRunning (replyCharacters chars) s)

/-- One reply character arrives; it restarts the reply timer, or keeps a drain from ending (R164, R171). -/
def execFieldReplyCharacterReceived (char : FieldChar) (s : State) : Host.Outcome State Fault Refusal :=
  .next (whenRunning (replyCharacters [char]) s)

/-- The reply timer's expiry, when it runs: the transaction ends with the characters it has (R164). -/
def replyExpires (s : State) : State :=
  match s.loop.current with
  | none => s
  | some t => if t.sent then finishTransaction t.received s else s

/-- The reply timer expires (R164). -/
def execReplyTimerExpiry (s : State) : Host.Outcome State Fault Refusal := .next (whenRunning replyExpires s)

/-- The end of the drain of a soft restart (R171). -/
def drainEnds (s : State) : State := if s.loop.state = .draining ∧ s.loop.current = none then endDrain s else s

/-- The line has been quiet for 4.0 ms after a soft restart (R171). -/
def execDrainEnd (s : State) : Host.Outcome State Fault Refusal := .next (whenRunning drainEnds s)

/-! ### Allocation (chapter 3) -/

/-- A request's wait deadline passes (R50). -/
def execWaitTimerExpiry (ticket : Nat) (s : State) : Host.Outcome State Fault Refusal :=
  .next (whenRunning (waitExpire ticket) s)

/-- A hold reaches its expiry (R63). -/
def execHoldExpiry (ticket : Nat) (s : State) : Host.Outcome State Fault Refusal :=
  .next (whenRunning (fun s => settle s (holdExpire ticket s)) s)

/-! ### Rows (chapter 4) -/

/-- The light timer of a row at its expiry: the request falls to the base level (R78). -/
def lightExpire (n : Nat) (s : State) : State :=
  match s.rows.find n with
  | none => s
  | some r =>
    if timerDue s.deckTime r.lightTimer then
      settle s (s.modRow n fun r => { r with requested := r.cfg.base, lightTimer := none })
    else s

/-- A row's light timer expires (R78). -/
def execLightTimerExpiry (row : Nat) (s : State) : Host.Outcome State Fault Refusal :=
  .next (whenRunning (lightExpire row) s)

/-- The rise timer of a RISING row at its expiry: one rise step is tried (R80). -/
def riseExpire (n : Nat) (s : State) : State :=
  match s.rows.find n with
  | none => s
  | some r =>
    match r.step with
    | .rising e => if Time.reached s.deckTime e then rowRise n s else s
    | .still => s
    | .riseHeld => s
    | .fading _ => s
    | .frozen => s

/-- A row's rise timer expires (R80). -/
def execRiseTimerExpiry (row : Nat) (s : State) : Host.Outcome State Fault Refusal :=
  .next (whenRunning (riseExpire row) s)

/-- One fade step of a row, with the fade interval in force for the next (R81). -/
def Row.faded (now : Time) (fade : Nat) (r : Row) : Row :=
  { r with
    commanded := r.commanded - 1
    step := if r.granted < r.commanded - 1 then .fading (Time.plus now fade) else .still }

/-- The fade timer of a FADING row at its expiry: one fade step, and the retry its decrease of draw calls for (R81, R157). -/
def fadeExpire (n : Nat) (s : State) : State :=
  match s.rows.find n with
  | none => s
  | some r =>
    match r.step with
    | .fading e => if Time.reached s.deckTime e then retryOnDecrease s (s.modRow n (Row.faded s.deckTime s.fade)) else s
    | .still => s
    | .rising _ => s
    | .riseHeld => s
    | .frozen => s

/-- A row's fade timer expires (R81). -/
def execFadeTimerExpiry (row : Nat) (s : State) : Host.Outcome State Fault Refusal :=
  .next (whenRunning (fadeExpire row) s)

/-! ### Air quality (chapter 5) -/

/-- Every zone's minute values pushed and accumulators cleared, each zone that pushed evaluated, and the minute timer
started again (R104). The zones are evaluated in rising number: the model's choice (log entry 38). -/
def airMinute (s : State) : State :=
  let s1 := { s with airMinute := Time.plus s.airMinute 600, zones := s.zones.mapRecords fun _ z => z.minute }
  forEach s1.zones.numbers evaluateZone s1

/-- The air quality unit's minute timer expires (R104). -/
def execAirMinuteTimerExpiry (s : State) : Host.Outcome State Fault Refusal :=
  .next (whenRunning (fun s => if Time.reached s.deckTime s.airMinute then settle s (airMinute s) else s) s)

/-- A zone's dwell timer expires (R108). -/
def execDwellTimerExpiry (zone : Nat) (s : State) : Host.Outcome State Fault Refusal :=
  .next (whenRunning (fun s => settle s (dwellExpire zone s)) s)

/-- A zone's override timer expires (R114). -/
def execOverrideTimerExpiry (zone : Nat) (s : State) : Host.Outcome State Fault Refusal :=
  .next (whenRunning (fun s => settle s (overrideExpire zone s)) s)

/-! ### Fans (chapter 6) -/

/-- The acceleration timer of an ACCELERATING fan at its expiry: one acceleration step is tried (R131). -/
def accelerationExpire (ch : Nat) (s : State) : State :=
  match s.fans.find ch with
  | none => s
  | some f => if f.state = .accelerating ∧ timerDue s.deckTime f.timer then fanAccelerate ch s else s

/-- A fan's acceleration timer expires (R131). -/
def execAccelerationTimerExpiry (channel : Nat) (s : State) : Host.Outcome State Fault Refusal :=
  .next (whenRunning (accelerationExpire channel) s)

/-- One deceleration step of a fan toward a grant of 0, which ends in `rest` with the timer given (R133, R135). -/
def Fan.descend (now : Time) (f : Fan) (rest : FanState) (timer : Option Time) : Fan :=
  if f.cfg.start < f.commanded then { f with commanded := f.commanded - 1, timer := some (Time.plus now f.cfg.decel) }
  else { f with commanded := 0, state := rest, timer := timer }

/-- One deceleration step of a DECELERATING fan (R133). -/
def Fan.decelerated (now : Time) (f : Fan) : Fan :=
  if f.granted = 0 then f.descend now .stopped none
  else if f.granted < f.commanded - 1 then
    { f with commanded := f.commanded - 1, timer := some (Time.plus now f.cfg.decel) }
  else { f with commanded := f.commanded - 1, state := .steady, timer := none }

/-- The deceleration timer of a DECELERATING or REVERSING_DOWN fan at its expiry: one step, and the retry its decrease of
draw calls for (R133, R135, R157). -/
def decelerationExpire (ch : Nat) (s : State) : State :=
  match s.fans.find ch with
  | none => s
  | some f =>
    if timerDue s.deckTime f.timer then
      if f.state = .decelerating then retryOnDecrease s (s.modFan ch (Fan.decelerated s.deckTime))
      else if f.state = .reversingDown then
        retryOnDecrease s
          (s.modFan ch fun f => f.descend s.deckTime .reverseDwell (some (Time.plus s.deckTime (f.cfg.dwell * 10))))
      else s
    else s

/-- A fan's deceleration timer expires (R133, R135). -/
def execDecelerationTimerExpiry (channel : Nat) (s : State) : Host.Outcome State Fault Refusal :=
  .next (whenRunning (decelerationExpire channel) s)

/-- The reverse dwell of a fan at its end: the due direction, FAN_REVERSED if it changed, STOPPED, and the start step with a
grant above 0 (R135). -/
def reverseDwellExpire (ch : Nat) (s : State) : State :=
  match s.fans.find ch with
  | none => s
  | some f =>
    if f.state = .reverseDwell ∧ timerDue s.deckTime f.timer then
      let due := s.dueDirection f
      let s1 := s.modFan ch fun f => { f with direction := due, state := .stopped, timer := none }
      let s2 := if due = f.direction then s1 else post .fanReversed ch due.code f.direction.code s1
      if 0 < f.granted then fanStart ch s2 else s2
    else s

/-- A fan's reverse dwell expires (R135). -/
def execReverseDwellExpiry (channel : Nat) (s : State) : Host.Outcome State Fault Refusal :=
  .next (whenRunning (reverseDwellExpire channel) s)

/-- A fault input at a new level. -/
def Pins.withFault (p : Pins) (ch : Nat) (asserted : Bool) : Pins :=
  { p with fanFault := if asserted then p.fanFault ||| (1#24 <<< ch) else p.fanFault &&& ~~~(1#24 <<< ch) }

/-- The fan of a channel whose fault input is asserted: to FAULTED unless it is FAULTED or ISOLATED, and out of the loads
(R137). -/
def faultAsserted (ch : Nat) (s : State) : State :=
  match s.fans.find ch with
  | none => s
  | some f => if f.isLoad then leaveLoads s (fanToFault ch s) else s

/-- An FFLT pin is asserted (R137). -/
def execFanFaultInputAsserted (channel : Fin 24) (s : State) : Host.Outcome State Fault Refusal :=
  .next (whenRunning (faultAsserted channel) { s with pins := s.pins.withFault channel true })

/-- An FFLT pin is released: a FAULTED fan stays FAULTED (R137). -/
def execFanFaultInputReleased (channel : Fin 24) (s : State) : Host.Outcome State Fault Refusal :=
  .next { s with pins := s.pins.withFault channel false }

/-! ### Supply (chapter 7) -/

/-- The SHED pin changes level: A is set afresh, and in RUN mode a change of A calls for a computation (R148). -/
def execShedChange (asserted : Bool) (s : State) : Host.Outcome State Fault Refusal :=
  .next (whenRunning (settle s) { s with pins := { s.pins with shed := asserted } })

/-! ### The profile store (R192) -/

/-- The store reports the last word written and the profile is read back; ignored with no write in flight (R192). -/
def writeCompletes (crcGood : Bool) (s : State) : State :=
  match s.control.write with
  | none => s
  | some w =>
    let ended := { s.control with write := none }
    if crcGood then
      post .profileStored 0 (Time.since s.deckTime w.started) 0
        (s.setControl { ended with profileValid := true, store := some w.contents })
    else post .profileFailed 0 1 0 (s.setControl ended)

/-- A profile write completes (R192). -/
def execProfileWriteCompletion (crcGood : Bool) (s : State) : Host.Outcome State Fault Refusal :=
  .next (whenRunning (writeCompletes crcGood) s)

/-- The write timer's expiry: the write is abandoned (R192). -/
def writeExpires (s : State) : State :=
  match s.control.write with
  | none => s
  | some w =>
    if Time.reached s.deckTime w.expires then
      post .profileFailed 0 0 0 (s.setControl { s.control with write := none })
    else s

/-- The write timer expires (R192). -/
def execProfileWriteTimerExpiry (s : State) : Host.Outcome State Fault Refusal := .next (whenRunning writeExpires s)

/-! ### Restarts and deck time (R193, R186) -/

/-- Power is applied: the strap is latched and a full restart follows (R193). -/
def execPowerOn (strapHigh : Bool) (s : State) : Host.Outcome State Fault Refusal :=
  .next (fullRestart .powerOn (s.setControl { s.control with strapHigh := strapHigh }))

/-- RESET_N goes low: the part is held in restart (R193). -/
def execResetNAsserted (s : State) : Host.Outcome State Fault Refusal :=
  .next (s.setControl { s.control with resetHeld := true })

/-- RESET_N rises: the full restart proceeds (R193). -/
def execResetNReleased (s : State) : Host.Outcome State Fault Refusal :=
  .next (if s.control.resetHeld then fullRestart .pin s else s)

/-- Deck time counts up by 1 (R186). -/
def execDeckTimeTick (s : State) : Host.Outcome State Fault Refusal :=
  .next (whenRunning (fun s => { s with deckTime := s.deckTime + 1#32 }) s)

end Sys2Proof.Machine
end

