-- ==== Sys2Proof/Machine/ConfigurationCommands.lean ====
section
/-! DEFINITION. The meanings of the station command rows: modes, configuration, profile and restarts (chapter 10). Each is that command's frame completing
at the port of the calling station. -/

namespace Sys2Proof.Machine

/-- ENTER_CONFIG (R187). -/
def execEnterConfig (st : Station) (tag : Nat) (s : State) : Host.Outcome State Fault Refusal :=
  .next (receive st (.command tag .enterConfig) s)

/-- COMMIT (R190, R191). -/
def execCommit (st : Station) (tag : Nat) (s : State) : Host.Outcome State Fault Refusal :=
  .next (receive st (.command tag .commit) s)

/-- STORE_PROFILE (R192). -/
def execStoreProfile (st : Station) (tag : Nat) (s : State) : Host.Outcome State Fault Refusal :=
  .next (receive st (.command tag .storeProfile) s)

/-- RESTART with operand HARD (R194). -/
def execRestartHard (st : Station) (tag : Nat) (s : State) : Host.Outcome State Fault Refusal :=
  .next (receive st (.command tag (.restart 0)) s)

/-- RESTART with operand SOFT (R194). -/
def execRestartSoft (st : Station) (tag : Nat) (s : State) : Host.Outcome State Fault Refusal :=
  .next (receive st (.command tag (.restart 1)) s)

/-- DEFINE (R188). -/
def execDefine (st : Station) (tag : Nat) (kind number : Nat) (fields : List Nat)
    (s : State) : Host.Outcome State Fault Refusal :=
  .next (receive st (.command tag (.define kind number fields)) s)

/-- DELETE (R188, R144). -/
def execDelete (st : Station) (tag : Nat) (kind number : Nat) (s : State) : Host.Outcome State Fault Refusal :=
  .next (receive st (.command tag (.delete kind number)) s)

/-- SET_POLL_LIST (R189). -/
def execSetPollList (st : Station) (tag : Nat) (position : Nat) (entries : List Nat)
    (s : State) : Host.Outcome State Fault Refusal :=
  .next (receive st (.command tag (.setPollList position entries)) s)

end Sys2Proof.Machine
end

