-- ==== Sys2Proof/Machine/GuidanceCommands.lean ====
section
/-! DEFINITION. The meanings of the station command rows: requests, holds, claims and closures (chapter 3), and the answers to frames that name no command (R176). Each is that command's frame completing
at the port of the calling station. -/

namespace Sys2Proof.Machine

/-- REQUEST_BAY (R49). -/
def execRequestBay (st : Station) (tag : Nat) (cls lane priority : Nat)
    (s : State) : Host.Outcome State Fault Refusal :=
  .next (receive st (.command tag (.requestBay cls lane priority)) s)

/-- WITHDRAW (R51). -/
def execWithdraw (st : Station) (tag : Nat) (ticket : Nat) (s : State) : Host.Outcome State Fault Refusal :=
  .next (receive st (.command tag (.withdraw ticket)) s)

/-- WITHDRAW_NEWEST (R52). -/
def execWithdrawNewest (st : Station) (tag : Nat) (s : State) : Host.Outcome State Fault Refusal :=
  .next (receive st (.command tag .withdrawNewest) s)

/-- CANCEL_HOLD (R65). -/
def execCancelHold (st : Station) (tag : Nat) (ticket : Nat) (s : State) : Host.Outcome State Fault Refusal :=
  .next (receive st (.command tag (.cancelHold ticket)) s)

/-- QUEUE_COUNT (R53). -/
def execQueueCount (st : Station) (tag : Nat) (s : State) : Host.Outcome State Fault Refusal :=
  .next (receive st (.command tag .queueCount) s)

/-- CLAIM_BAY (R68). -/
def execClaimBay (st : Station) (tag : Nat) (bay expected : Nat) (s : State) : Host.Outcome State Fault Refusal :=
  .next (receive st (.command tag (.claimBay bay expected)) s)

/-- RELEASE_CLAIM (R71). -/
def execReleaseClaim (st : Station) (tag : Nat) (bay : Nat) (s : State) : Host.Outcome State Fault Refusal :=
  .next (receive st (.command tag (.releaseClaim bay)) s)

/-- CLOSE_BAY (R70). -/
def execCloseBay (st : Station) (tag : Nat) (bay : Nat) (s : State) : Host.Outcome State Fault Refusal :=
  .next (receive st (.command tag (.closeBay bay)) s)

/-- OPEN_BAY (R71). -/
def execOpenBay (st : Station) (tag : Nat) (bay : Nat) (s : State) : Host.Outcome State Fault Refusal :=
  .next (receive st (.command tag (.openBay bay)) s)

/-- A frame whose code is not in the command table (R176 check 2). -/
def execUnknownCommand (st : Station) (tag code : Nat) (s : State) : Host.Outcome State Fault Refusal :=
  .next (receive st (.unknown tag code) s)

/-- A bad frame (R173, R176 check 1). -/
def execBadFrameEntry (st : Station) (tag : Nat) (s : State) : Host.Outcome State Fault Refusal :=
  .next (receive st (.badFrame tag) s)

end Sys2Proof.Machine
end

