-- ==== Sys2Proof/Machine/PlantCommands.lean ====
section
/-! DEFINITION. The meanings of the station command rows: overrides, flow patterns, fans and the census (chapters 2, 5 and 6). Each is that command's frame completing
at the port of the calling station. -/

namespace Sys2Proof.Machine

/-- VENT_OVERRIDE (R113). -/
def execVentOverride (st : Station) (tag : Nat) (zone demand duration : Nat)
    (s : State) : Host.Outcome State Fault Refusal :=
  .next (receive st (.command tag (.ventOverride zone demand duration)) s)

/-- SET_FLOW_PATTERN (R136). -/
def execSetFlowPattern (st : Station) (tag : Nat) (zone pattern : Nat)
    (s : State) : Host.Outcome State Fault Refusal :=
  .next (receive st (.command tag (.setFlowPattern zone pattern)) s)

/-- CLEAR_FAN (R138). -/
def execClearFan (st : Station) (tag : Nat) (channel : Nat) (s : State) : Host.Outcome State Fault Refusal :=
  .next (receive st (.command tag (.clearFan channel)) s)

/-- ISOLATE_FAN (R139). -/
def execIsolateFan (st : Station) (tag : Nat) (channel : Nat) (s : State) : Host.Outcome State Fault Refusal :=
  .next (receive st (.command tag (.isolateFan channel)) s)

/-- RESTORE_FAN (R140). -/
def execRestoreFan (st : Station) (tag : Nat) (channel : Nat) (s : State) : Host.Outcome State Fault Refusal :=
  .next (receive st (.command tag (.restoreFan channel)) s)

/-- MANUAL_FAN (R143). -/
def execManualFan (st : Station) (tag : Nat) (channel speed : Nat) (s : State) : Host.Outcome State Fault Refusal :=
  .next (receive st (.command tag (.manualFan channel speed)) s)

/-- CENSUS (R39). -/
def execCensus (st : Station) (tag : Nat) (level : Nat) (s : State) : Host.Outcome State Fault Refusal :=
  .next (receive st (.command tag (.census level)) s)

end Sys2Proof.Machine
end

