-- ==== Sys2Proof/Machine/PortEvents.lean ====
section
/-! DEFINITION. The meanings of the station port rows: SEL, whole frames and read-outs (sections 9.1 and 9.2). -/

namespace Sys2Proof.Machine

/-- SEL falls (R173, R174). -/
def execSelFall (st : Station) (s : State) : Host.Outcome State Fault Refusal := .next (selFalls st s)

/-- The bytes shifted in complete a frame (R173, R175). -/
def execCommandFrameReceived (st : Station) (bytes : List Byte) (s : State) : Host.Outcome State Fault Refusal :=
  .next (if s.control.resetHeld then s else frameBytes st bytes s)

/-- The last CRC byte of the response being shifted out goes out (R174). -/
def execResponseFrameReadOut (st : Station) (s : State) : Host.Outcome State Fault Refusal :=
  .next (if s.control.resetHeld then s else readOutDone st s)

/-- SEL rises (R173); while RESET_N holds the part, the port then stands ready for the next transaction (R181). -/
def execSelRise (st : Station) (shiftedIn : List Byte) (s : State) : Host.Outcome State Fault Refusal :=
  .next
    (if s.control.resetHeld then s.setPort st { s.port st with transaction := .idle } else selRises st shiftedIn s)

end Sys2Proof.Machine
end

