-- ==== Sys2Proof/Machine/ReadCommands.lean ====
section
/-! DEFINITION. The meanings of the station command rows: the reads and the event mask (chapter 9). Each is that command's frame completing
at the port of the calling station. -/

namespace Sys2Proof.Machine

/-- READ_STATUS (R178). -/
def execReadStatus (st : Station) (tag : Nat) (s : State) : Host.Outcome State Fault Refusal :=
  .next (receive st (.command tag .readStatus) s)

/-- READ_EVENTS (R182). -/
def execReadEvents (st : Station) (tag : Nat) (count : Nat) (s : State) : Host.Outcome State Fault Refusal :=
  .next (receive st (.command tag (.readEvents count)) s)

/-- SET_EVENT_MASK (R183). -/
def execSetEventMask (st : Station) (tag : Nat) (mask : Nat) (s : State) : Host.Outcome State Fault Refusal :=
  .next (receive st (.command tag (.setEventMask mask)) s)

/-- READ_RECORD (R184). -/
def execReadRecord (st : Station) (tag : Nat) (kind number part : Nat)
    (s : State) : Host.Outcome State Fault Refusal :=
  .next (receive st (.command tag (.readRecord kind number part)) s)

/-- READ_QUEUE (R72, R185). -/
def execReadQueue (st : Station) (tag : Nat) (page : Nat) (s : State) : Host.Outcome State Fault Refusal :=
  .next (receive st (.command tag (.readQueue page)) s)

/-- READ_HOLDS (R72, R185). -/
def execReadHolds (st : Station) (tag : Nat) (page : Nat) (s : State) : Host.Outcome State Fault Refusal :=
  .next (receive st (.command tag (.readHolds page)) s)

/-- READ_LOADS (R158, R185). -/
def execReadLoads (st : Station) (tag : Nat) (page : Nat) (s : State) : Host.Outcome State Fault Refusal :=
  .next (receive st (.command tag (.readLoads page)) s)

end Sys2Proof.Machine
end

