-- ==== Sys2Proof/Machine/TableCommands.lean ====
section
/-! DEFINITION. The meanings of the station command rows: the tables and settings (chapters 3, 4, 5 and 7). Each is that command's frame completing
at the port of the calling station. -/

namespace Sys2Proof.Machine

/-- SET_CLASS_TABLE (R57). -/
def execSetClassTable (st : Station) (tag : Nat) (entries : List Nat)
    (s : State) : Host.Outcome State Fault Refusal :=
  .next (receive st (.command tag (.setClassTable entries)) s)

/-- SET_PENALTY (R58). -/
def execSetPenalty (st : Station) (tag : Nat) (penalties : List Nat) (s : State) : Host.Outcome State Fault Refusal :=
  .next (receive st (.command tag (.setPenalty penalties)) s)

/-- SET_ALLOWANCE (R149). -/
def execSetAllowance (st : Station) (tag : Nat) (normal shed : Nat) (s : State) : Host.Outcome State Fault Refusal :=
  .next (receive st (.command tag (.setAllowance normal shed)) s)

/-- SET_STAGE_TABLE (R110). -/
def execSetStageTable (st : Station) (tag : Nat) (stages : List StageRow) (hysteresis dwell : Nat)
    (s : State) : Host.Outcome State Fault Refusal :=
  .next (receive st (.command tag (.setStageTable stages hysteresis dwell)) s)

/-- SET_TRAFFIC_TABLE (R116). -/
def execSetTrafficTable (st : Station) (tag : Nat) (level : Nat) (slots : List SlotOperand)
    (s : State) : Host.Outcome State Fault Refusal :=
  .next (receive st (.command tag (.setTrafficTable level slots)) s)

/-- SET_LIGHT_LEVELS (R89). -/
def execSetLightLevels (st : Station) (tag : Nat) (row base active hold fade : Nat)
    (s : State) : Host.Outcome State Fault Refusal :=
  .next (receive st (.command tag (.setLightLevels row base active hold fade)) s)

/-- SET_GUIDANCE_TIMES (R59). -/
def execSetGuidanceTimes (st : Station) (tag : Nat) (maxWait holdTime substitution : Nat)
    (s : State) : Host.Outcome State Fault Refusal :=
  .next (receive st (.command tag (.setGuidanceTimes maxWait holdTime substitution)) s)

end Sys2Proof.Machine
end

