-- ==== Sys2Proof/Machine/Dispatch.lean ====
section
/-! DEFINITION. The meaning of every command: one arm per constructor of `Instr`, each one direct call. -/

namespace Sys2Proof.Machine

def exec (i : Instr) (s : State) : Host.Outcome State Fault Refusal :=
  match i with
  | .readStatus st tag => Sys2Proof.Machine.execReadStatus st tag s
  | .readEvents st tag count => Sys2Proof.Machine.execReadEvents st tag count s
  | .setEventMask st tag mask => Sys2Proof.Machine.execSetEventMask st tag mask s
  | .readRecord st tag kind number part => Sys2Proof.Machine.execReadRecord st tag kind number part s
  | .readQueue st tag page => Sys2Proof.Machine.execReadQueue st tag page s
  | .readHolds st tag page => Sys2Proof.Machine.execReadHolds st tag page s
  | .readLoads st tag page => Sys2Proof.Machine.execReadLoads st tag page s
  | .enterConfig st tag => Sys2Proof.Machine.execEnterConfig st tag s
  | .commit st tag => Sys2Proof.Machine.execCommit st tag s
  | .storeProfile st tag => Sys2Proof.Machine.execStoreProfile st tag s
  | .restartHard st tag => Sys2Proof.Machine.execRestartHard st tag s
  | .restartSoft st tag => Sys2Proof.Machine.execRestartSoft st tag s
  | .define st tag kind number fields => Sys2Proof.Machine.execDefine st tag kind number fields s
  | .delete st tag kind number => Sys2Proof.Machine.execDelete st tag kind number s
  | .setPollList st tag position entries => Sys2Proof.Machine.execSetPollList st tag position entries s
  | .setClassTable st tag entries => Sys2Proof.Machine.execSetClassTable st tag entries s
  | .setPenalty st tag penalties => Sys2Proof.Machine.execSetPenalty st tag penalties s
  | .setAllowance st tag normal shed => Sys2Proof.Machine.execSetAllowance st tag normal shed s
  | .setStageTable st tag stages hysteresis dwell => Sys2Proof.Machine.execSetStageTable st tag stages hysteresis dwell s
  | .setTrafficTable st tag level slots => Sys2Proof.Machine.execSetTrafficTable st tag level slots s
  | .ventOverride st tag zone demand duration => Sys2Proof.Machine.execVentOverride st tag zone demand duration s
  | .setFlowPattern st tag zone pattern => Sys2Proof.Machine.execSetFlowPattern st tag zone pattern s
  | .clearFan st tag channel => Sys2Proof.Machine.execClearFan st tag channel s
  | .isolateFan st tag channel => Sys2Proof.Machine.execIsolateFan st tag channel s
  | .restoreFan st tag channel => Sys2Proof.Machine.execRestoreFan st tag channel s
  | .manualFan st tag channel speed => Sys2Proof.Machine.execManualFan st tag channel speed s
  | .census st tag level => Sys2Proof.Machine.execCensus st tag level s
  | .setLightLevels st tag row base active hold fade => Sys2Proof.Machine.execSetLightLevels st tag row base active hold fade s
  | .setGuidanceTimes st tag maxWait holdTime substitution => Sys2Proof.Machine.execSetGuidanceTimes st tag maxWait holdTime substitution s
  | .requestBay st tag cls lane priority => Sys2Proof.Machine.execRequestBay st tag cls lane priority s
  | .withdraw st tag ticket => Sys2Proof.Machine.execWithdraw st tag ticket s
  | .withdrawNewest st tag => Sys2Proof.Machine.execWithdrawNewest st tag s
  | .cancelHold st tag ticket => Sys2Proof.Machine.execCancelHold st tag ticket s
  | .queueCount st tag => Sys2Proof.Machine.execQueueCount st tag s
  | .claimBay st tag bay expected => Sys2Proof.Machine.execClaimBay st tag bay expected s
  | .releaseClaim st tag bay => Sys2Proof.Machine.execReleaseClaim st tag bay s
  | .closeBay st tag bay => Sys2Proof.Machine.execCloseBay st tag bay s
  | .openBay st tag bay => Sys2Proof.Machine.execOpenBay st tag bay s
  | .unknownCommand st tag code => Sys2Proof.Machine.execUnknownCommand st tag code s
  | .badFrameEntry st tag => Sys2Proof.Machine.execBadFrameEntry st tag s
  | .selFall st => Sys2Proof.Machine.execSelFall st s
  | .commandFrameReceived st bytes => Sys2Proof.Machine.execCommandFrameReceived st bytes s
  | .responseFrameReadOut st => Sys2Proof.Machine.execResponseFrameReadOut st s
  | .selRise st shiftedIn => Sys2Proof.Machine.execSelRise st shiftedIn s
  | .rampInputChange pair side high => Sys2Proof.Machine.execRampInputChange pair side high s
  | .settleTimerExpiry pair => Sys2Proof.Machine.execSettleTimerExpiry pair s
  | .censusMinuteTimerExpiry => Sys2Proof.Machine.execCensusMinuteTimerExpiry s
  | .censusStartTimerExpiry => Sys2Proof.Machine.execCensusStartTimerExpiry s
  | .driftTimerExpiry level => Sys2Proof.Machine.execDriftTimerExpiry level s
  | .fieldRequestSent => Sys2Proof.Machine.execFieldRequestSent s
  | .fieldReplyReceived chars => Sys2Proof.Machine.execFieldReplyReceived chars s
  | .replyTimerExpiry => Sys2Proof.Machine.execReplyTimerExpiry s
  | .drainEnd => Sys2Proof.Machine.execDrainEnd s
  | .waitTimerExpiry ticket => Sys2Proof.Machine.execWaitTimerExpiry ticket s
  | .holdExpiry ticket => Sys2Proof.Machine.execHoldExpiry ticket s
  | .lightTimerExpiry row => Sys2Proof.Machine.execLightTimerExpiry row s
  | .riseTimerExpiry row => Sys2Proof.Machine.execRiseTimerExpiry row s
  | .fadeTimerExpiry row => Sys2Proof.Machine.execFadeTimerExpiry row s
  | .airMinuteTimerExpiry => Sys2Proof.Machine.execAirMinuteTimerExpiry s
  | .dwellTimerExpiry zone => Sys2Proof.Machine.execDwellTimerExpiry zone s
  | .overrideTimerExpiry zone => Sys2Proof.Machine.execOverrideTimerExpiry zone s
  | .accelerationTimerExpiry channel => Sys2Proof.Machine.execAccelerationTimerExpiry channel s
  | .decelerationTimerExpiry channel => Sys2Proof.Machine.execDecelerationTimerExpiry channel s
  | .reverseDwellExpiry channel => Sys2Proof.Machine.execReverseDwellExpiry channel s
  | .fanFaultInputAsserted channel => Sys2Proof.Machine.execFanFaultInputAsserted channel s
  | .fanFaultInputReleased channel => Sys2Proof.Machine.execFanFaultInputReleased channel s
  | .shedChange asserted => Sys2Proof.Machine.execShedChange asserted s
  | .profileWriteCompletion crcGood => Sys2Proof.Machine.execProfileWriteCompletion crcGood s
  | .profileWriteTimerExpiry => Sys2Proof.Machine.execProfileWriteTimerExpiry s
  | .powerOn strapHigh => Sys2Proof.Machine.execPowerOn strapHigh s
  | .resetNAsserted => Sys2Proof.Machine.execResetNAsserted s
  | .resetNReleased => Sys2Proof.Machine.execResetNReleased s
  | .deckTimeTick => Sys2Proof.Machine.execDeckTimeTick s
  | .fieldReplyCharacterReceived char => Sys2Proof.Machine.execFieldReplyCharacterReceived char s

end Sys2Proof.Machine
end

