-- ==== Sys2Proof/Safety.lean ====
section
/-! DEFINITION. The terms claims are stated in: a part that takes commands, a response as it is placed, and the bounds the
manual gives as laws of the device. -/

namespace Sys2Proof.Machine

/-- The part is not held in restart, and a port takes an entry as it arrives: nothing waits before it, and the response
buffer has a free slot (R175). -/
def Ready (s : State) (st : Station) : Bool :=
  !s.control.resetHeld && (s.port st).commands.isEmpty && decide ((s.port st).responses.length ≤ 1)

/-- A state with one response frame placed at the newest end of a port's response buffer. It echoes the tag and the code,
carries the port flags as they stand in that state with the command-overrun flag given, and the flag is then cleared (R175,
R176, R177). -/
def respond (st : Station) (tag code : Nat) (overrun : Bool) (status : Status) (contents : List Byte) (s : State) : State :=
  s.setPort st
    { s.port st with
      responses := (s.port st).responses ++
        [{ tag := tag, code := code, status := status, flags := flagsNow s st overrun false, contents := contents }]
      overrun := false }

/-- The outcome of a command taken at once: the state it leaves with its one response (R175). -/
def replies (s : State) (st : Station) (tag code : Nat) (status : Status) (contents : List Byte) (s' : State) :
    Host.Outcome State Fault Refusal :=
  .next (respond st tag code (s.port st).overrun status contents s')

/-- The bounds of one port: two entries, two responses, 24 records (section 9.1, R173, R175, R180). -/
def Port.bounded (p : Port) : Bool :=
  decide (p.commands.length ≤ 2) && decide (p.responses.length ≤ 2) && decide (p.events.length ≤ 24)

/-- The bounds the manual states as laws: port buffers and event queues (R180), the guidance queue (R48) and the hold list
(R60). -/
def Bounded (s : State) : Bool :=
  s.ports.supervisor.bounded && s.ports.lane.bounded && s.ports.guidance.bounded &&
  decide (s.guidance.queue.length ≤ 32) && decide (s.guidance.holds.length ≤ 64)

/-- The numbers of every table of a configuration strictly rise. -/
def Configuration.rising (c : Configuration) : Bool :=
  c.bays.rising && c.pairs.rising && c.levels.rising && c.rows.rising && c.heads.rising && c.zones.rising && c.fans.rising

/-- Every table of records keeps its numbers strictly rising, so that a number names at most one record (R1, R27, R33, R75,
R95, R101, R124): the records in force, and those of the working copy, of the stored profile and of a profile being written. -/
def TablesRising (s : State) : Bool :=
  s.inForce.rising && (s.control.working.all Configuration.rising) &&
  (s.control.store.all fun p => p.config.rising) && (s.control.write.all fun w => w.contents.config.rising)

/-- The tables by node address keep their numbers strictly rising too: band records, health records, pending band changes. -/
def AddressTablesRising (s : State) : Bool := s.bands.rising && s.loop.health.rising && s.loop.pendingBands.rising

/-- A fan stands at 0 while it is STOPPED, in REVERSE_DWELL, FAULTED or ISOLATED (R127). -/
def FansAtRest (s : State) : Bool :=
  s.fans.all fun p =>
    !(decide (p.2.state = .stopped) || decide (p.2.state = .reverseDwell) || decide (p.2.state = .faulted) ||
      decide (p.2.state = .isolated)) || decide (p.2.commanded = 0)

/-- The tickets of the guidance queue and of the hold list. -/
def liveTickets (g : Guidance) : List Nat := g.queue.map (·.ticket) ++ g.holds.map (·.ticket)

/-- The laws of tickets and holds: no ticket stands twice in the queue and the hold list (R47); each hold names a bay that is
HELD with its ticket, and each HELD bay has its hold (R60); queue and hold list are empty in CONFIG mode (R73). -/
def HoldsMatch (s : State) : Bool :=
  decide (liveTickets s.guidance).Nodup &&
  (s.guidance.holds.all fun h => decide ((s.bays.find h.bay).map (·.admin) = some (.held h.ticket))) &&
  (s.bays.all fun p =>
    match p.2.admin with
    | .held t => s.guidance.holds.any fun h => decide (h.ticket = t) && decide (h.bay = p.1)
    | .opened => true
    | .claimed _ => true
    | .closed => true) &&
  (s.inRun || (s.guidance.queue.isEmpty && s.guidance.holds.isEmpty))

/-- Every fan is of class 1, or of class 3 with a floor of 0, and the tables of loads rise: what the division of the
allowance relies on (R147). -/
def LoadsFit (s : State) : Bool :=
  s.fans.rising && s.rows.rising &&
  s.fans.all fun p => decide (p.2.cls = 1) || (decide (p.2.cls = 3) && decide (p.2.floor = 0))

/-- In RUN mode every fan's request, floor and class are those its zone gives it (R117, R126). -/
def DemandsHanded (s : State) : Bool := !s.inRun || decide (handDemands s = s)

/-- Where loads may be held: FAN_RAMP_HELD is set of STOPPED and ACCELERATING fans alone (R130 to R132); and in CONFIG mode every
row is FROZEN (R91) and every fan HELD, FAULTED or ISOLATED (R142). -/
def StepsHeld (s : State) : Bool :=
  (s.fans.all fun p => !p.2.rampHeld || decide (p.2.state = .stopped) || decide (p.2.state = .accelerating)) &&
  (s.inRun ||
    ((s.rows.all fun p => decide (p.2.step = .frozen)) &&
      s.fans.all fun p =>
        decide (p.2.state = .held) || decide (p.2.state = .faulted) || decide (p.2.state = .isolated)))

/-! ### Frames -/

/-- Two states whose ports differ at most in their event queues and event-overrun flags. -/
def PortsAgree (s t : State) : Prop :=
  ∀ st, (t.port st).commands = (s.port st).commands ∧ (t.port st).responses = (s.port st).responses ∧
    (t.port st).overrun = (s.port st).overrun ∧ (t.port st).mask = (s.port st).mask ∧
    (t.port st).transaction = (s.port st).transaction

/-- Two states that agree on the queue of commands, deck time, the pins and every timer or setting of the device that no
configuration holds. -/
def DeviceAgrees (s t : State) : Prop :=
  t.pending = s.pending ∧ t.deckTime = s.deckTime ∧ t.pins = s.pins ∧ t.censusMinute = s.censusMinute ∧
  t.censusStart = s.censusStart ∧ t.fade = s.fade ∧ t.stageTable = s.stageTable ∧ t.airMinute = s.airMinute

/-! ### The modes commands are taken in (the owning rules, and R192) -/

/-- The commands taken in RUN mode alone. -/
def runOnly : Command → Bool
  | .enterConfig => true
  | .ventOverride _ _ _ => true
  | .setFlowPattern _ _ => true
  | .census _ => true
  | .requestBay _ _ _ => true
  | _ => false

/-- The commands taken in CONFIG mode alone. -/
def configOnly : Command → Bool
  | .commit => true
  | .define _ _ _ => true
  | .delete _ _ => true
  | .setPollList _ _ => true
  | .setClassTable _ => true
  | .setPenalty _ => true
  | .setStageTable _ _ _ => true
  | .manualFan _ _ => true
  | _ => false

/-- The commands refused with BUSY while a profile write is in flight (R192). -/
def busyRefused : Command → Bool
  | .storeProfile => true
  | .enterConfig => true
  | .commit => true
  | .define _ _ _ => true
  | .delete _ _ => true
  | .setPollList _ _ => true
  | .restart operand => decide (operand = 1)
  | .setEventMask _ => true
  | .setClassTable _ => true
  | .setPenalty _ => true
  | .setAllowance _ _ => true
  | .setStageTable _ _ _ => true
  | .setTrafficTable _ _ => true
  | .setFlowPattern _ _ => true
  | .setLightLevels _ _ _ _ _ => true
  | .setGuidanceTimes _ _ _ => true
  | _ => false

/-- The statuses with which a command is carried out. -/
def carriedOut (status : Status) : Bool := decide (status = .done) || decide (status = .doneClamped) || decide (status = .accepted)

/-! ### Restarts -/

/-- A port right after a restart with its one RESTARTED record (R181). -/
def portRestarted (now : Time) (cause : RestartCause) (valid : Bool) (mode : Mode) (mask : BitVec 32) (p : Port) : Port :=
  { commands := [], responses := [], overrun := false, mask := mask,
    events := [{ kind := .restarted, time := now, subject := cause.code, a := bit valid, b := mode.code }],
    eventOverrun := false, transaction := p.transaction.abandon }

/-- The state a full restart leaves where the store holds no valid profile: every block as it stands at `State.reset`, with
the pins and the latched strap as they were (R193). -/
def blankRestart (cause : RestartCause) (s : State) : State :=
  { State.reset with
    pending := s.pending
    pins := s.pins
    control := { State.reset.control with cause := cause, strapHigh := s.control.strapHigh }
    ports :=
      { supervisor := portRestarted 0#32 cause false .config (defaultMask .supervisor) s.ports.supervisor
        lane := portRestarted 0#32 cause false .config (defaultMask .lane) s.ports.lane
        guidance := portRestarted 0#32 cause false .config (defaultMask .guidance) s.ports.guidance } }

/-- A row stands by the comparison of its grant with its commanded level, its step timer just started (R79). -/
def Row.compared (now : Time) (fade : Nat) (r : Row) : Prop :=
  (r.commanded < r.granted → r.step = .rising (now + 1#32)) ∧ (r.commanded = r.granted → r.step = .still) ∧
  (r.granted < r.commanded → r.step = .fading (Time.plus now fade))

/-- A fan that stood STOPPED at 0 has acted on its grant: it stays so at a grant of 0; above 0 it has taken its start step, or is
held before it (R129, R130). -/
def Fan.startedFromRest (now : Time) (f : Fan) : Prop :=
  (f.granted = 0 → f.state = .stopped ∧ f.commanded = 0 ∧ f.rampHeld = false) ∧
  (0 < f.granted →
    (f.state = .stopped ∧ f.commanded = 0 ∧ f.rampHeld = true) ∨
    (f.commanded = f.cfg.start ∧ f.rampHeld = false ∧
      (if f.cfg.start < f.granted then f.state = .accelerating ∧ f.timer = some (Time.plus now f.cfg.accel)
       else f.state = .steady ∧ f.timer = none)))

/-- The loads after a computation that hands every load its grant: the records of the division, the short flag, and the grants
(R151 to R154). -/
def Computed (t : State) : Prop :=
  let d := divide t
  let k := d.scales.getD (0, 0, 0)
  t.supply.floorTotal = d.floorTotal ∧ t.supply.budget = d.budget ∧ t.supply.k1 = k.1 ∧ t.supply.k2 = k.2.1 ∧
  t.supply.k3 = k.2.2 ∧ t.supply.short = decide (t.allowance < d.floorTotal) ∧
  (∀ n r, t.rows.find n = some r → r.granted = d.rowGrant r) ∧
  ∀ ch f, t.fans.find ch = some f → t.formRequest f = f ∧ (f.isLoad = true → f.granted = d.fanGrant f)

/-- The walk begins the transaction of its first entry (R162, R163). -/
def FirstTransaction (t : State) : Prop :=
  t.loop.current = t.loop.pollList.head?.map fun a =>
    { address := a, request := buildRequest t a, sent := false, received := [] }

/-- The loads after a full restart, where the numbers of the profile's tables rise: rows at their active level with their light
timers running (R93); a fan with an asserted input FAULTED, every other one STOPPED at 0 before its first grant (R145). -/
def LoadsRestarted (t : State) : Prop :=
  Computed t ∧
  (∀ n r, t.rows.find n = some r →
    r.requested = r.cfg.active ∧ r.commanded = r.cfg.active ∧
    r.lightTimer = some (Time.plus 0#32 (r.cfg.holdTime * 10)) ∧ Row.compared 0#32 t.fade r) ∧
  ∀ ch f, t.fans.find ch = some f → f.direction = f.cfg.dirA ∧
    (t.pins.fanFault.getLsbD ch = true →
      f.state = .faulted ∧ f.commanded = 0 ∧ f.granted = 0 ∧ f.rampHeld = false ∧ f.timer = none) ∧
    (t.pins.fanFault.getLsbD ch = false → Fan.startedFromRest 0#32 f)

/-- What holds after a full restart that loads the profile `p` (R193, R181, and the restart tables of the chapters). -/
def ProfileLoaded (p : Profile) (cause : RestartCause) (s t : State) : Prop :=
  t.pending = s.pending ∧ t.pins = s.pins ∧ t.deckTime = 0#32 ∧
  t.control =
    { mode := .run, working := none, profileValid := true, write := none, store := some p, cause := cause,
      strapHigh := s.control.strapHigh, resetHeld := false } ∧
  t.inForce = p.config ∧
  t.bays = p.config.bays.mapRecords (fun _ b => Bay.fresh b (b.ref0.getD 0)) ∧ t.bands = [] ∧
  t.pairs = p.config.pairs.mapRecords (fun n c => RampPair.fresh s.pins n c) ∧
  t.levels = p.config.levels.mapRecords (fun _ c => Level.fresh c) ∧
  t.censusMinute = 600#32 ∧ t.censusStart = some 300#32 ∧
  t.heads = p.config.heads.mapRecords (fun _ c => Head.fresh c) ∧
  t.zones = p.config.zones.mapRecords (fun _ c => Zone.fresh c) ∧ t.airMinute = 600#32 ∧
  t.stageTable = p.stageTable ∧ t.fade = p.fade ∧
  t.guidance =
    { queue := [], holds := [], lastTicket := 0, classTable := p.classTable, penalties := p.penalties, maxWait := p.maxWait,
      holdTime := p.holdTime, substitution := p.substitution } ∧
  t.supply.normal = p.normal ∧ t.supply.shed = p.shed ∧
  (p.config.rising = true → LoadsRestarted t) ∧
  (∀ a, t.pendingBand a =
    if a < 128 ∧ ∃ q ∈ p.config.bays, q.2.node = a then some { counted := false, band := 0 } else none) ∧
  t.loop.health = [] ∧ t.loop.state = .running ∧ t.loop.next = firstEntry p.config.pollList ∧ FirstTransaction t ∧
  (t.port .supervisor).mask = p.maskS ∧ (t.port .lane).mask = p.maskL ∧ (t.port .guidance).mask = p.maskG ∧
  ∀ st, (t.port st).commands = [] ∧ (t.port st).responses = [] ∧ (t.port st).overrun = false ∧
    (t.port st).transaction = (s.port st).transaction.abandon ∧
    (t.port st).events.head? = some { kind := .restarted, time := 0#32, subject := cause.code, a := 1, b := 0 }

/-! ### Fans -/

/-- A fan checked for reversal against a due direction (R134): from a speed above 0 it runs down, from 0 it dwells; a fan in
step, or one that is reversing, FAULTED, ISOLATED or HELD, is left as it is. -/
def Fan.turned (now : Time) (due : Direction) (f : Fan) : Fan :=
  if f.direction ≠ due ∧ (f.state = .stopped ∨ f.state = .accelerating ∨ f.state = .steady ∨ f.state = .decelerating) then
    if 0 < f.commanded then { f with state := .reversingDown, rampHeld := false, timer := some (Time.plus now f.cfg.decel) }
    else { f with state := .reverseDwell, rampHeld := false, timer := some (Time.plus now (f.cfg.dwell * 10)) }
  else f

/-- The direction a fan should have under a flow pattern (R125). -/
def FanCfg.dueUnder (c : FanCfg) (pattern : Pattern) : Direction :=
  if c.reversible then (if pattern = .a then c.dirA else c.dirB) else c.dirA

end Sys2Proof.Machine
end

