-- ==== Sys2Proof/Certificates/Slice0/Obligations.lean ====
section
/-! DEFINITION. The statements for the provers: what a step is, the invariants every step keeps, what every command does from
which states, and the rules the blocks follow. A station command row is the arrival of that command's whole frame at the
caller's port (log entry 1), so its statements speak of a part that is `Ready` and of the response it `replies`. -/

open Sys2Proof Sys2Proof.Machine

/-! ### Steps, queue, invariants -/

/-- A step takes the command at the front of the queue and carries it out on the state with the queue's rest. -/
def Obligations.StepRunsFrontCommand : Prop :=
  ∀ (s : State) (c : Instr) (rest : List Instr), s.pending = c :: rest → step s = exec c (s.withPending rest)

/-- Every command of the table, in every state, answers a next state, and none adds to or takes from the queue of commands. -/
def Obligations.EveryCommandRuns : Prop :=
  ∀ (i : Instr) (s : State), ∃ t, exec i s = .next t ∧ t.pending = s.pending

/-- The bounds the manual states as laws of the device hold after every step that begins with them holding: no port holds more
than two entries or two responses, no event queue more than 24 records (R180), the guidance queue no more than 32 requests
(R48), the hold list no more than 64 holds (R60). -/
def Obligations.BoundsKeptByStep : Prop :=
  ∀ s t : State, Bounded s = true → step s = .next t → Bounded t = true

/-- The numbers of every table stay strictly rising, so that a number names one entry or none: the tables of records, in force, in
the working copy, in the stored profile and in a profile being written, and the tables by node address, of bands, of node
health and of pending band changes. -/
def Obligations.TablesKeptByStep : Prop :=
  ∀ s t : State, step s = .next t →
    (TablesRising s = true → TablesRising t = true) ∧ (AddressTablesRising s = true → AddressTablesRising t = true)

/-- A fan that is STOPPED, in REVERSE_DWELL, FAULTED or ISOLATED stands at commanded speed 0, after every step that begins so
(the second half of the law of R127). -/
def Obligations.RestingFansKeptByStep : Prop :=
  ∀ s t : State, FansAtRest s = true → step s = .next t → FansAtRest t = true

/-- The laws of tickets and holds: a ticket stands at most once in the queue and the hold list together (R47), and holds and
HELD bays match one for one (R60), after every step that begins so with the tables rising and within their bounds. -/
def Obligations.HoldsKeptByStep : Prop :=
  ∀ s t : State, Bounded s = true → TablesRising s = true → HoldsMatch s = true → step s = .next t → HoldsMatch t = true

/-- What the loads rely on stays so with every step. Every fan is of class 1, or of class 3 with a floor of 0 (R126, R147), after a
step that begins so with the tables rising. In RUN mode every fan's request, floor and class are those its zone gives it, after
a step that begins so (R117, R126). FAN_RAMP_HELD is set of STOPPED and ACCELERATING fans alone, and in CONFIG mode every row is
FROZEN and every fan HELD, FAULTED or ISOLATED, after a step that begins so (R91, R130 to R132, R142). -/
def Obligations.LoadsKeptByStep : Prop :=
  ∀ s t : State, step s = .next t →
    (TablesRising s = true → LoadsFit s = true → LoadsFit t = true) ∧
    (DemandsHanded s = true → DemandsHanded t = true) ∧ (StepsHeld s = true → StepsHeld t = true)

/-- The invariants hold right after reset. -/
def Obligations.InvariantsHoldAtReset : Prop :=
  Bounded State.reset = true ∧ TablesRising State.reset = true ∧ AddressTablesRising State.reset = true ∧
  FansAtRest State.reset = true ∧ HoldsMatch State.reset = true ∧ LoadsFit State.reset = true ∧
  DemandsHanded State.reset = true ∧ StepsHeld State.reset = true

/-! ### Frames -/

/-- The frame of a command that fits it is read back as that command with its tag, whatever bytes follow it (section 9.8,
R173). -/
def Obligations.FramesReadBack : Prop :=
  ∀ (tag : Nat) (c : Command) (more : List Byte), tag < 256 → c.wellFormed = true →
    decodeFrame (encodeFrame tag c ++ more) = some (.command tag c)

/-! ### Ports (sections 9.1 to 9.3) -/

/-- The answers that stand before any block is reached: a command outside the caller's class REFUSED_CLASS, a payload of the
wrong length BAD_ARGUMENT, a code outside the table UNKNOWN_COMMAND, a bad frame BAD_FRAME with command code 0; nothing else
changes (R176 checks 1 to 4). A frame is of the wrong length where the widths of its code's operands do not add up to its
payload; its entry is then judged by class and length alone, as it arrives. Then the mode check, then the busy check: a command
taken in one mode alone is refused with REFUSED_MODE in the other; one on the list of R192 is refused with BUSY while a profile
write is in flight; nothing changes, and no other command is answered with either status. (The length of a DEFINE of an unknown
kind, and of a poll list piece above 128 entries: log entries 17 and 42.) -/
def Obligations.CommandChecksInOrder : Prop :=
  (∀ (s : State) (st : Station) (tag : Nat), Ready s st = true →
    (∀ (i : Instr) (c : Command), i.entry = some (st, .command tag c) → inClass c.code st = false →
      exec i s = replies s st tag c.code .refusedClass [] s) ∧
    (∀ (i : Instr) (c : Command), i.entry = some (st, .command tag c) → inClass c.code st = true → c.lengthFits = false →
      exec i s = replies s st tag c.code .badArgument [] s) ∧
    (∀ code : Nat, inCommandTable code = false →
      exec (.unknownCommand st tag code) s = replies s st tag code .unknownCommand [] s) ∧
    exec (.badFrameEntry st tag) s = replies s st tag 0 .badFrame [] s ∧
    ∀ (out : Option Response) (bytes : List Byte) (code : Nat), (s.port st).transaction = .active out false →
      decodeFrame bytes = some (.misfit tag code) → (code = 0x07 → (s.port st).responses = []) →
      let closed := s.setPort st { s.port st with transaction := .active out true }
      exec (.commandFrameReceived st bytes) s =
        replies closed st tag code (if inClass code st then .badArgument else .refusedClass) [] closed) ∧
  (∀ (tag code : Nat) (payload : List Byte), inCommandTable code = true →
    (decodeEntry tag code payload = .misfit tag code ↔
      (operandWidths code payload.length (leNat (payload.take 1))).sum ≠ payload.length)) ∧
  ∀ (i : Instr) (s : State) (st : Station) (tag : Nat) (c : Command), i.entry = some (st, .command tag c) →
    Ready s st = true → inClass c.code st = true → c.lengthFits = true →
    ((runOnly c && !s.inRun || configOnly c && s.inRun) = true →
      exec i s = replies s st tag c.code .refusedMode [] s) ∧
    ((runOnly c && !s.inRun || configOnly c && s.inRun) = false → busyRefused c = true → s.writing = true →
      exec i s = replies s st tag c.code .busy [] s) ∧
    (∀ r ∈ (execute st c s).2,
      (r.1 = .refusedMode → (runOnly c && !s.inRun || configOnly c && s.inRun) = true) ∧
      (r.1 = .busy → busyRefused c = true ∧ s.writing = true))

/-- A command answered with any status but DONE, DONE_CLAMPED and ACCEPTED has changed nothing. -/
def Obligations.RefusedCommandsChangeNothing : Prop :=
  ∀ (st : Station) (c : Command) (s t : State) (status : Status) (contents : List Byte),
    execute st c s = (t, [(status, contents)]) → carriedOut status = false → t = s

/-- An entry that cannot be taken as it arrives waits behind what waits, without effect, while the oldest entry's response has no
room; with two entries waiting the frame is discarded and the command-overrun flag is set (R173, R175). The four steps of a port
transaction: SEL falls and fixes the oldest response; the bytes of a frame complete and its entry
arrives, once in a transaction; the fixed response goes out whole and is removed; SEL rises (R173, R174). -/
def Obligations.PortTransactionSteps : Prop :=
  ∀ (s : State) (st : Station), s.control.resetHeld = false →
    (∀ (i : Instr) (e : Entry), i.entry = some (st, e) →
      ((s.port st).commands.length < 2 → hasRoom (s.port st) ((s.port st).commands.headD e) = false →
        exec i s = .next (s.setPort st { s.port st with commands := (s.port st).commands ++ [e] })) ∧
      (2 ≤ (s.port st).commands.length → exec i s = .next (s.setPort st { s.port st with overrun := true }))) ∧
    ((s.port st).transaction = .idle →
      exec (.selFall st) s =
        .next (s.setPort st { s.port st with transaction := .active (s.port st).responses.head? false })) ∧
    (∀ out bytes e, (s.port st).transaction = .active out false → decodeFrame bytes = some e →
      exec (.commandFrameReceived st bytes) s =
        .next (receive st e (s.setPort st { s.port st with transaction := .active out true }))) ∧
    (∀ out bytes, (s.port st).transaction = .active out true → exec (.commandFrameReceived st bytes) s = .next s) ∧
    (∀ r past, (s.port st).transaction = .active (some r) past → (s.port st).commands = [] →
      exec (.responseFrameReadOut st) s =
        .next
          (s.setPort st
            { s.port st with responses := (s.port st).responses.drop 1, transaction := .active none past })) ∧
    (∀ r past e, (s.port st).transaction = .active (some r) past → (s.port st).commands = [e] →
      (s.port st).responses.length ≤ 2 → slotsNeeded e = 1 →
      exec (.responseFrameReadOut st) s =
        .next
          (receive st e
            (s.setPort st
              { s.port st with
                commands := [], responses := (s.port st).responses.drop 1, transaction := .active none past }))) ∧
    (∀ out past bytes, (s.port st).transaction = .active out past → (past = true ∨ entryAtRise bytes = none) →
      exec (.selRise st bytes) s = .next (s.setPort st { s.port st with transaction := .idle })) ∧
    (∀ out len, (s.port st).transaction = .active out false → len ≠ 0#8 → (len.toNat < 5 ∨ 160 < len.toNat) →
      exec (.selRise st [len]) s =
        .next (receive st (.badFrame 0) (s.setPort st { s.port st with transaction := .idle })))

/-- What an event does where it is posted: at each station whose mask holds its kind it joins the newest end stamped with deck
time, or, at 24 records, sets the event-overrun flag and leaves the queue; elsewhere it leaves everything as it was. An
addressed event reaches its station alone, and RESTARTED reaches every station whatever its mask (R179, R180). -/
def Obligations.EventsReachMaskedStations : Prop :=
  ∀ (s : State) (kind : EventKind) (subject a b : Nat) (st named : Station),
    let rec' : EventRecord := { kind := kind, time := s.deckTime, subject := subject, a := a, b := b }
    let delivered : EventRecord → Port := fun r =>
      if (s.port st).events.length < 24 then { s.port st with events := (s.port st).events ++ [r] }
      else { s.port st with eventOverrun := true }
    (post kind subject a b s).port st = (if (s.port st).mask.getLsbD kind.code then delivered rec' else s.port st) ∧
    (postTo named kind subject a b s).port st =
      (if st = named ∧ (s.port st).mask.getLsbD kind.code = true then delivered rec' else s.port st) ∧
    (postRestarted a b s).port st =
      delivered { kind := .restarted, time := s.deckTime, subject := s.control.cause.code, a := a, b := b } ∧
    { post kind subject a b s with ports := s.ports } = s ∧ { postTo named kind subject a b s with ports := s.ports } = s

/-! ### Reads (sections 9.4 to 9.6, 3.7 and 7.5) -/

/-- READ_STATUS answers DONE with its fields in order, and clears the caller's event-overrun flag; it is taken in either mode
and while a profile is written (R178). READ_EVENTS removes the oldest records of the caller's queue, up to the count, and answers them with the flag it clears; a
count of 0 or above 6 is refused (R182). SET_EVENT_MASK replaces the caller's mask and answers the old one; BUSY and bits 28
to 31 refuse it (R183). -/
def Obligations.StatusAndEventCommandsAnswer : Prop :=
  ∀ (s : State) (st : Station) (tag : Nat), Ready s st = true →
    (exec (.readStatus st tag) s =
        replies s st tag 0x01 .done
          (joinFields [1, 4, 1, 1, 1, 1, 1, 1, 4, 1, 1, 1, 1, 1, 1]
            [if s.inRun then 0 else 1, s.deckTime.toNat, s.control.cause.code, bit s.control.profileValid, bit s.writing,
             bit s.control.strapHigh, (s.port st).events.length, bit (s.port st).eventOverrun, (s.port st).mask.toNat,
             s.guidance.queue.length, s.guidance.holds.length, bit s.supply.short, bit s.pins.shed,
             (s.loop.health.filter fun p => decide (p.2.health = .fault)).length,
             (s.zones.filter fun p => p.2.failsafe).length])
          (s.setPort st { s.port st with eventOverrun := false })) ∧
    (∀ count, 1 ≤ count → count ≤ 6 →
      exec (.readEvents st tag count) s =
        replies s st tag 0x02 .done
          (joinFields [1, 1, 1]
              [bit (s.port st).eventOverrun, ((s.port st).events.drop count).length, ((s.port st).events.take count).length] ++
            ((s.port st).events.take count).flatMap fun e =>
              joinFields [1, 4, 2, 2, 2] [e.kind.code, e.time.toNat, e.subject, e.a, e.b])
          (s.setPort st { s.port st with events := (s.port st).events.drop count, eventOverrun := false })) ∧
    (∀ count, (count = 0 ∨ 6 < count) → exec (.readEvents st tag count) s = replies s st tag 0x02 .badArgument [] s) ∧
    (∀ mask, s.writing = true → exec (.setEventMask st tag mask) s = replies s st tag 0x03 .busy [] s) ∧
    (∀ mask, s.writing = false → 2 ^ 28 ≤ mask → exec (.setEventMask st tag mask) s = replies s st tag 0x03 .badArgument [] s) ∧
    (∀ mask, s.writing = false → mask < 2 ^ 28 →
      exec (.setEventMask st tag mask) s =
        replies s st tag 0x03 .done (leBytes 4 (s.port st).mask.toNat)
          (s.setPort st { s.port st with mask := BitVec.ofNat 32 mask }))

/-- READ_RECORD answers the kind, the number, the part, the number of words of the read-out and the words of the part; one
out of range is refused with BAD_ARGUMENT, a record that is not there with NOT_FOUND (R184). READ_QUEUE and READ_HOLDS answer the entries 8 × page + 1 to 8 × page + 8 of their list with its length, the page and the
number returned; QUEUE_COUNT answers the length of the queue, and each of the caller's requests with its position, front to
tail; nothing changes (R72, R185, R53). -/
def Obligations.RecordAndListReadsAnswer : Prop :=
  ∀ (s : State) (st : Station) (tag page kind number part : Nat), Ready s st = true →
    (readFits kind number part = false →
      exec (.readRecord st tag kind number part) s = replies s st tag 0x04 .badArgument [] s) ∧
    (readFits kind number part = true → readOut s kind number = none →
      exec (.readRecord st tag kind number part) s = replies s st tag 0x04 .notFound [] s) ∧
    (∀ words, readFits kind number part = true → readOut s kind number = some words →
      exec (.readRecord st tag kind number part) s =
        replies s st tag 0x04 .done
          (joinFields [1, 2, 1, 2] [kind, number, part, words.length] ++
            ((words.drop (72 * part)).take 72).flatMap fun w => leBytes 2 w)
          s) ∧
    exec (.readQueue st tag page) s =
      replies s st tag 0x05 .done
        (joinFields [1, 1, 1] [s.guidance.queue.length, page, ((s.guidance.queue.drop (8 * page)).take 8).length] ++
          ((s.guidance.queue.drop (8 * page)).take 8).flatMap fun r =>
            joinFields [2, 2, 2, 2, 2, 4, 4]
              [r.ticket, Station.code r.station, r.cls, r.lane, bit r.priority, r.enqueued.toNat, r.deadline.toNat])
        s ∧
    exec (.readHolds st tag page) s =
      replies s st tag 0x06 .done
        (joinFields [1, 1, 1] [s.guidance.holds.length, page, ((s.guidance.holds.drop (8 * page)).take 8).length] ++
          ((s.guidance.holds.drop (8 * page)).take 8).flatMap fun h =>
            joinFields [2, 2, 2, 2, 2, 4, 4]
              [h.ticket, h.bay, Station.code h.station, h.cls, h.level, h.issued.toNat, h.expiry.toNat])
        s ∧
    (inClass 0x34 st = true →
      exec (.queueCount st tag) s =
        replies s st tag 0x34 .done
          (joinFields [1, 1] [s.guidance.queue.length, (s.guidance.queue.filter fun r => decide (r.station = st)).length] ++
            (s.guidance.queue.filter fun r => decide (r.station = st)).flatMap fun r =>
              joinFields [2, 1] [r.ticket, queuePosition s.guidance.queue r.ticket])
          s)

/-- The words of every kind of record, in the order and the widths of its tables, a 32-bit field as two words, low word first: bays
(kind 0), band records (1), ramp pairs (2), levels (3), rows (4), gas heads (5), zones (6), traffic tables (7), the stage table
(8), fans (9), node health (10), the field loop (11) and the device settings (12); a number with no record gives none (R22, R23,
R43, R90, R118, R119, R141, R172, R184; figures of log entry 35 as they stand). -/
def Obligations.RecordsReadOut : Prop :=
  ∀ (s : State) (n : Nat),
    let flag := fun (b : Bool) => if b then 1 else 0
    let long := fun (v : Nat) => [v % 65536, v / 65536 % 65536]
    let short := fun (v : Option Nat) => v.getD 0xFFFF
    let time := fun (v : Option Time) => long ((v.map BitVec.toNat).getD 0xFFFFFFFF)
    let left := fun (v : Option Time) =>
      (v.map fun e => if Time.since s.deckTime e < 2147483648 then 0 else (e - s.deckTime).toNat).getD 0
    (∀ b, s.bays.find n = some b →
      readOut s 0 n = some
        ([n, b.cfg.row, b.cfg.cls, b.cfg.node, b.cfg.channel, b.cfg.cost, b.cfg.onThr, b.cfg.offThr, short b.cfg.ref0,
          short b.cfg.ref1, short b.cfg.ref2, short b.cfg.ref3, b.sensed.code, b.admin.code, flag b.learning,
          b.learnProgress] ++ long b.learnSum ++
         [b.baseline, short b.lastCount, b.onRun, b.offRun, b.window.length, (b.window.filter id).length, b.invalidRun] ++
         (match b.admin with
          | .held t => [t, 0xFFFF]
          | .claimed st => [0, Station.code st]
          | _ => [0, 0xFFFF]) ++ time b.changedAt)) ∧
    (let r := s.bandRecord n
     readOut s 1 n = some
      ([r.band, r.changes.length] ++ time r.changes[0]? ++ time r.changes[1]? ++ time r.changes[2]? ++
       [short ((s.pendingBand n).map (·.band))])) ∧
    (∀ p, s.pairs.find n = some p →
      readOut s 2 n = some
        [n, (match p.cfg.upper with
             | .street => 0x00FF
             | .level u => u), p.cfg.lower, flag (s.pins.rampA.getLsbD n), flag (s.pins.rampB.getLsbD n), flag p.filteredA,
         flag p.filteredB, phaseOf p.filteredA p.filteredB, (p.position % 65536).toNat, flag p.spoiled,
         flag p.settle.isSome]) ∧
    (∀ l, s.levels.find n = some l →
      readOut s 3 n = some
        ([n, l.cfg.driftLimit, l.cfg.driftTime, l.cfg.weight, short l.cfg.sign1, short l.cfg.sign2, l.count,
          s.presentCount n] ++ l.ring ++ long l.ring.sum ++
         [s.trafficIndex n, flag l.pending, l.drift.code,
          left (match l.drift with
            | .timing t => some (Time.plus t (l.cfg.driftTime * 10))
            | _ => none)])) ∧
    (∀ r, s.rows.find n = some r →
      readOut s 4 n = some
        ([n, r.cfg.level, r.cfg.zone, (match r.cfg.parent with
            | .row m => m
            | .pair m => 0x0100 + m), r.cfg.node, r.cfg.rated, r.cfg.base, r.cfg.active, r.cfg.holdTime, r.requested,
          left r.lightTimer, r.granted, r.commanded, r.step.code, s.pathHolds n, flag (decide (0 < s.pathHolds n)),
          s.freeCount n 0, s.freeCount n 1, s.freeCount n 2, s.freeCount n 3, s.offeredCount n 0, s.offeredCount n 1,
          s.offeredCount n 2, s.offeredCount n 3] ++ long (s.rowDraw r))) ∧
    (∀ h, s.heads.find n = some h →
      readOut s 5 n = some
        ([n, 128 + n, h.cfg.zone, h.cfg.coOffset, h.cfg.coGain, h.cfg.no2Offset, h.cfg.no2Gain, h.health.code,
          short (h.raw.map (·.co)), short (h.raw.map (·.no2)),
          short (h.raw.map fun r =>
            flag r.flags.satCo + 2 * flag r.flags.satNo2 + 4 * flag r.flags.warmup + 8 * flag r.flags.sensorFault),
          short (h.values.map (·.co)), short (h.values.map (·.no2))] ++ time (h.values.map (·.time)))) ∧
    (∀ z, s.zones.find n = some z →
      let ring := fun (l : List Nat) =>
        [short l[0]?, short l[1]?, short l[2]?, short l[3]?, short l[4]?, short l[5]?, short l[6]?, short l[7]?,
         short l[8]?, short l[9]?, short l[10]?, short l[11]?, short l[12]?, short l[13]?, short l[14]?]
      readOut s 6 n = some
        ([n, z.cfg.level, z.cfg.failsafeDemand, z.stage, flag z.failsafe, (s.usableHeads n).length, z.coInst, z.no2Inst,
          z.coMean, z.no2Mean] ++ long z.coSum ++ long z.no2Sum ++ long z.samples ++ [z.coRing.length] ++ ring z.coRing ++
         ring z.no2Ring ++ [left z.dwell, (z.override.map (·.demand)).getD 0] ++
         long (left (z.override.map (·.expires))) ++
         [s.stageTable.demand z.stage, s.trafficDemand z.cfg.level, s.zoneDemand z, z.fanClass, z.pattern.code])) ∧
    (∀ l, s.levels.find n = some l →
      readOut s 7 n = some
        ((l.cfg.traffic.flatMap fun slot =>
            match slot with
            | some r => [r.lower, r.upper, r.demand]
            | none => [0xFFFF, 0xFFFF, 0xFFFF]) ++ [s.trafficIndex n, s.trafficDemand n])) ∧
    readOut s 8 n = some
      ((s.stageTable.stages.flatMap fun r => [r.coMean, r.coInst, r.no2Inst, r.demand]) ++
       [s.stageTable.hysteresis, s.stageTable.dwell]) ∧
    (∀ f, s.fans.find n = some f →
      readOut s 9 n = some
        ([n, f.cfg.zone] ++ long f.cfg.rated ++
         [f.cfg.minRun, f.cfg.start, f.cfg.maxSpeed, f.cfg.accel, f.cfg.decel, flag f.cfg.reversible, f.cfg.dirA.code,
          f.cfg.dirB.code, f.cfg.dwell, f.state.code, f.commanded, f.granted, f.request, f.floor, f.cls, f.direction.code,
          (s.dueDirection f).code, flag f.rampHeld, left f.timer, flag (s.pins.fanFault.getLsbD n)] ++ long f.draw)) ∧
    (let r := s.nodeRecord n
     readOut s 10 n = some ([r.health.code, r.failures, short (r.lastOutcome.map (·.code))] ++ time r.lastOk)) ∧
    readOut s 11 n = some
      ([flag s.control.strapHigh, s.loop.state.code, s.loop.pollList.length, s.loop.next,
        short (s.loop.current.map (·.address))] ++ s.loop.pollList) ∧
    readOut s 12 n = some [s.jitter] ∧
    (s.bays.find n = none → readOut s 0 n = none) ∧ (s.pairs.find n = none → readOut s 2 n = none) ∧
    (s.levels.find n = none → readOut s 3 n = none ∧ readOut s 7 n = none) ∧ (s.rows.find n = none → readOut s 4 n = none) ∧
    (s.heads.find n = none → readOut s 5 n = none) ∧ (s.zones.find n = none → readOut s 6 n = none) ∧
    (s.fans.find n = none → readOut s 9 n = none) ∧
    ([Sensed.vacant, .present, .unknown].map Sensed.code = [0, 1, 2] ∧
      [Admin.opened, .held n, .claimed .lane, .closed].map Admin.code = [0, 1, 2, 3] ∧
      [Station.supervisor, .lane, .guidance].map Station.code = [0, 1, 2] ∧
      [Drift.idle, .timing 0#32, .reported].map Drift.code = [0, 1, 2] ∧
      [RowStep.still, .rising 0#32, .riseHeld, .fading 0#32, .frozen].map RowStep.code = [0, 1, 2, 3, 4] ∧
      [HeadHealth.none, .warmup, .valid, .stale, .fault].map HeadHealth.code = [0, 1, 2, 3, 4] ∧
      [Pattern.a, .b].map Pattern.code = [0, 1] ∧ [Direction.forward, .reverse].map Direction.code = [0, 1] ∧
      [FanState.stopped, .accelerating, .steady, .decelerating, .reversingDown, .reverseDwell, .faulted, .isolated,
        .held].map FanState.code = [0, 1, 2, 3, 4, 5, 6, 7, 8] ∧
      [NodeHealth.ok, .missing, .fault].map NodeHealth.code = [0, 1, 2] ∧
      [LoopState.running, .stopped, .draining].map LoopState.code = [0, 1, 2])

/-- READ_LOADS with both response slots free answers its header, the counts and the entries of the page, each field in its order
and width: one frame for up to four entries, two placed together for five or more, the first with MORE set (R158, R185). The
loads are the fans of the inventory by channel, then the rows. With one slot free it waits. The command-overrun flag stands in
the first frame alone (DEDUCED, log entry 18). -/
def Obligations.ReadLoadsAnswers : Prop :=
  ∀ (s : State) (st : Station) (tag page : Nat), s.control.resetHeld = false → (s.port st).commands = [] →
    let fans := s.fans.filter fun p => decide (p.2.state ≠ .faulted ∧ p.2.state ≠ .isolated)
    let loads : List (List Byte) :=
      (fans.map fun p =>
        joinFields [2, 2, 2, 2, 2, 4, 2, 4, 4, 2]
          [0, p.1, p.2.cls, p.2.floor, p.2.request, p.2.cfg.power p.2.floor, p.2.granted, p.2.cfg.power p.2.granted,
           p.2.cfg.power p.2.commanded, heldPosition s (.fan p.1)]) ++
      s.rows.map fun p =>
        joinFields [2, 2, 2, 2, 2, 4, 2, 4, 4, 2]
          [1, p.1, 2, p.2.cfg.base, p.2.requested, s.rowPower p.2 p.2.cfg.base, p.2.granted, s.rowPower p.2 p.2.granted,
           s.rowPower p.2 p.2.commanded, heldPosition s (.row p.1)]
    let entries := (loads.drop (8 * page)).take 8
    let head :=
      joinFields [4, 4, 2, 4, 4, 4, 4, 4, 2, 2, 2, 2, 2, 2, 2]
        [s.supply.normal, s.supply.shed, bit s.pins.shed, if s.pins.shed then s.supply.shed else s.supply.normal,
         s.supply.floorTotal, s.totalDraw, s.grantedSum, s.supply.budget, s.supply.k1, s.supply.k2, s.supply.k3,
         bit s.supply.short, if s.inRun then 0 else 1, (heldList s).length, loads.length] ++
      joinFields [1, 1, 1] [loads.length, page, entries.length]
    ((s.port st).responses = [] → entries.length ≤ 4 →
      exec (.readLoads st tag page) s = replies s st tag 0x07 .done (head ++ entries.flatten) s) ∧
    ((s.port st).responses = [] → 5 ≤ entries.length →
      exec (.readLoads st tag page) s =
        .next
          (s.setPort st
            { s.port st with
              responses :=
                [{ tag := tag, code := 0x07, status := .done, flags := flagsNow s st (s.port st).overrun true,
                   contents := head ++ (entries.take 4).flatten },
                 { tag := tag, code := 0x07, status := .done, flags := flagsNow s st false false,
                   contents := (entries.drop 4).flatten }]
              overrun := false })) ∧
    ((s.port st).responses.length = 1 →
      exec (.readLoads st tag page) s =
        .next (s.setPort st { s.port st with commands := [.command tag (.readLoads page)] }))

/-! ### Modes, configuration and the profile store (chapter 10) -/

/-- ENTER_CONFIG in RUN mode with no write in flight: CONFIG with a working copy of the configuration in force; the queue and
the hold list empty, their HELD bays OPEN; the walk stopping, or stopped where no transaction is in flight; every row FROZEN;
every fan that is a load HELD; then MODE_CHANGED; the response carries how many requests and holds lapsed (R187, R73, R170, R91,
R142). That the walk stops at once also during the drain of a soft restart is the model's choice (DEDUCED, log entry 24). What
the lapses post is not said here. -/
def Obligations.EnterConfigFreezesPart : Prop :=
  ∀ (s : State) (tag : Nat), Ready s .supervisor = true → s.inRun = true → s.writing = false →
    ∃ t, exec (.enterConfig .supervisor tag) s =
        replies s .supervisor tag 0x10 .done (joinFields [1, 1] [s.guidance.queue.length, s.guidance.holds.length])
          (post .modeChanged 0 1 0 t) ∧
      t.control = { s.control with mode := .config, working := some s.inForce } ∧
      t.guidance = { s.guidance with queue := [], holds := [] } ∧
      (∀ n, t.bays.find n =
        (s.bays.find n).map fun b =>
          if s.guidance.holds.any (fun h => decide (h.bay = n)) then { b with admin := .opened } else b) ∧
      t.rows = s.rows.mapRecords (fun _ r => { r with step := .frozen }) ∧
      t.fans = s.fans.mapRecords (fun _ f =>
        if f.state = .faulted ∨ f.state = .isolated then f else { f with state := .held, rampHeld := false, timer := none }) ∧
      t.loop = { s.loop with state := if s.loop.current = none then .stopped else .draining } ∧
      DeviceAgrees s t ∧ PortsAgree s t ∧ t.bands = s.bands ∧ t.jitter = s.jitter ∧ t.pairs = s.pairs ∧
      t.levels = s.levels ∧ t.heads = s.heads ∧ t.zones = s.zones ∧ t.supply = s.supply

/-- COMMIT in CONFIG mode with no write in flight: the first check that fails is answered BAD_CONFIG with its number, kind and
record number, and nothing changes; where all pass the part is in RUN with the working copy in force and discarded, the poll
list taken from its first entry and the loop RUNNING or draining on, the guidance tables, the queue, health records and device
timers as they were, and MODE_CHANGED posted last (R190, R191, R170). -/
def Obligations.CommitTakesWorkingCopy : Prop :=
  ∀ (s : State) (tag : Nat), Ready s .supervisor = true → s.inRun = false → s.writing = false →
    (∀ f, commitFailure s.workingCopy = some f →
      exec (.commit .supervisor tag) s =
        replies s .supervisor tag 0x11 .badConfig (joinFields [1, 1, 2] [f.check, f.kind, f.number]) s) ∧
    (commitFailure s.workingCopy = none →
      ∃ t, exec (.commit .supervisor tag) s = replies s .supervisor tag 0x11 .done [] (post .modeChanged 1 0 1 t) ∧
        t.control = { s.control with mode := .run, working := none } ∧ t.inForce = s.workingCopy ∧
        t.guidance = s.guidance ∧ t.loop.health = s.loop.health ∧
        t.loop.next = (if s.workingCopy.pollList = [] then 0 else 1) ∧
        t.loop.state = (if s.loop.state = .draining then .draining else .running) ∧
        DeviceAgrees s t ∧ PortsAgree s t ∧ t.bands = s.bands)

/-- What COMMIT keeps and what it takes anew. A bay with the same node, channel and references keeps every runtime field, any other
starts UNKNOWN, OPEN and learning, with the reference of its node's band as baseline; a pair with the same sides keeps its
decoder; a level keeps its count, ring and drift timer, then every census is set pending and carried out where the ramps are
idle; a head keeps all; a zone keeps its accumulators, rings, override and pattern, is FAILSAFE exactly where it has no usable
head, and takes its values from those it has. A new record starts as at a restart (R25, R45, R73, R121; a drift time already
over under its new limit: DEDUCED, log entry 37; the zones are also evaluated: DEDUCED, log entry 27). -/
def Obligations.CommitKeepsOrResetsRecords : Prop :=
  ∀ (s : State) (tag : Nat), Ready s .supervisor = true → s.inRun = false → s.writing = false → TablesRising s = true →
    commitFailure s.workingCopy = none →
    let c := s.workingCopy
    ∃ t, exec (.commit .supervisor tag) s = replies s .supervisor tag 0x11 .done [] t ∧
      (∀ n, t.bays.find n = (c.bays.find n).map fun x =>
        let anew : Bay :=
          { cfg := x, sensed := .unknown, admin := .opened, learning := true, learnProgress := 0, learnSum := 0,
            baseline := (x.reference (s.bandRecord x.node).band).getD (x.ref0.getD 0), lastCount := none, onRun := 0,
            offRun := 0, window := [], invalidRun := 0, changedAt := none }
        match s.bays.find n with
        | some b =>
          if b.cfg.node = x.node ∧ b.cfg.channel = x.channel ∧ b.cfg.ref0 = x.ref0 ∧ b.cfg.ref1 = x.ref1 ∧
              b.cfg.ref2 = x.ref2 ∧ b.cfg.ref3 = x.ref3 then { b with cfg := x } else anew
        | none => anew) ∧
      (∀ n, t.pairs.find n = (c.pairs.find n).map fun x =>
        let anew : RampPair :=
          { cfg := x, filteredA := s.pins.rampA.getLsbD n, filteredB := s.pins.rampB.getLsbD n, position := 0,
            spoiled := s.pins.rampA.getLsbD n || s.pins.rampB.getLsbD n, settle := none }
        match s.pairs.find n with
        | some q => if q.cfg = x then q else anew
        | none => anew) ∧
      (∀ n x, c.levels.find n = some x → ∃ l', t.levels.find n = some l' ∧ l'.cfg = x ∧
        let old := s.levels.find n
        let count := (old.map (·.count)).getD 0
        let present := t.presentCount n
        let idle := ∀ q ∈ t.pairs, (q.2.cfg.upper = .level n ∨ q.2.cfg.lower = n) →
          q.2.filteredA = false ∧ q.2.filteredB = false ∧ q.2.position = 0
        let run := fun (start : Time) =>
          if Time.reached s.deckTime (Time.plus start (x.driftTime * 10)) then Drift.reported else .timing start
        l'.ring = (old.map (·.ring)).getD [0, 0, 0, 0, 0] ∧
        (idle → l'.count = present ∧ l'.pending = false ∧ l'.drift = .idle) ∧
        (¬ idle → l'.count = count ∧ l'.pending = true ∧
          ((count - present) + (present - count) ≤ x.driftLimit → l'.drift = .idle) ∧
          (x.driftLimit < (count - present) + (present - count) →
            l'.drift = (match (old.map (·.drift)).getD .idle with
              | .idle => run s.deckTime
              | .timing start => run start
              | .reported => .reported)))) ∧
      (∀ n, t.heads.find n = (c.heads.find n).map fun x =>
        match s.heads.find n with
        | some h => { h with cfg := x }
        | none => { cfg := x, health := .none, raw := none, values := none }) ∧
      (∀ n x, c.zones.find n = some x → ∃ z', t.zones.find n = some z' ∧ z'.cfg = x ∧
        let hs := t.usableHeads n
        let largest := fun (f : HeadValues → Nat) (v : Nat) =>
          (∀ h ∈ hs, (h.values.map f).getD 0 ≤ v) ∧ ∃ h ∈ hs, (h.values.map f).getD 0 = v
        let kept := fun (z : Zone) =>
          z'.coSum = z.coSum ∧ z'.no2Sum = z.no2Sum ∧ z'.samples = z.samples ∧ z'.coRing = z.coRing ∧
          z'.no2Ring = z.no2Ring ∧ z'.override = z.override ∧ z'.pattern = z.pattern ∧
          (hs = [] → z'.failsafe = true ∧ z'.stage = z.stage ∧ z'.coInst = z.coInst ∧ z'.no2Inst = z.no2Inst) ∧
          (hs ≠ [] → z'.failsafe = false ∧ z.stage ≤ z'.stage ∧ largest (·.co) z'.coInst ∧ largest (·.no2) z'.no2Inst)
        kept ((s.zones.find n).getD
          { cfg := x, stage := 0, failsafe := true, coInst := 0, no2Inst := 0, coSum := 0, no2Sum := 0, samples := 0,
            coRing := [], no2Ring := [], dwell := none, override := none, pattern := .a }))

/-- What COMMIT does with the loads and the walk. A row with the same node keeps its light timer and its commanded level, its
request following the timer; any other starts at its active level; each takes its grant and the step state the comparison
gives. A fan FAULTED or ISOLATED stays so, with its direction and stored grant; a HELD one leaves HELD with its speed brought
within the new record, turns where its direction is not the due one, and else acts on its grant; a new one starts in its due
direction, FAULTED where its input is asserted. A band reset is made pending for each node whose bays do not cover its current
band and a counted band pending, in place of what was pending; every other pending change stands. The walk begins at its first
entry, with no transaction in flight and no drain (R92, R144, R159, R15, R170). The rows stand FROZEN and the fans HELD, FAULTED or ISOLATED, as they
do in CONFIG mode. -/
def Obligations.CommitStartsLoads : Prop :=
  ∀ (s : State) (tag : Nat), Ready s .supervisor = true → s.inRun = false → s.writing = false → TablesRising s = true →
    StepsHeld s = true → LoadsFit s = true → commitFailure s.workingCopy = none →
    let c := s.workingCopy
    ∃ t, exec (.commit .supervisor tag) s = replies s .supervisor tag 0x11 .done [] t ∧ Computed t ∧
      (∀ n x, c.rows.find n = some x → ∃ r', t.rows.find n = some r' ∧ r'.cfg = x ∧ Row.compared s.deckTime s.fade r' ∧
        (∀ r, s.rows.find n = some r → r.cfg.node = x.node →
          r'.lightTimer = r.lightTimer ∧ r'.commanded = r.commanded ∧
          r'.requested = (if r.lightTimer = none then x.base else x.active)) ∧
        ((∀ r, s.rows.find n = some r → r.cfg.node ≠ x.node) →
          r'.lightTimer = some (Time.plus s.deckTime (x.holdTime * 10)) ∧ r'.commanded = x.active ∧
          r'.requested = x.active)) ∧
      (∀ ch x, c.fans.find ch = some x → ∃ f', t.fans.find ch = some f' ∧ f'.cfg = x ∧
        (∀ f, s.fans.find ch = some f → (f.state = .faulted ∨ f.state = .isolated) →
          f'.state = f.state ∧ f'.commanded = f.commanded ∧ f'.granted = f.granted ∧ f'.direction = f.direction) ∧
        (∀ f, s.fans.find ch = some f → f.state = .held →
          let v := if x.maxSpeed < f.commanded then x.maxSpeed else if f.commanded < x.start then 0 else f.commanded
          f'.direction = f.direction ∧
          (f.direction ≠ t.dueDirection f' →
            f'.commanded = v ∧ f'.rampHeld = false ∧
            (if 0 < v then f'.state = .reversingDown ∧ f'.timer = some (Time.plus s.deckTime x.decel)
             else f'.state = .reverseDwell ∧ f'.timer = some (Time.plus s.deckTime (x.dwell * 10)))) ∧
          (f.direction = t.dueDirection f' → v = 0 → Fan.startedFromRest s.deckTime f') ∧
          (f.direction = t.dueDirection f' → 0 < v →
            f'.commanded = v ∧ f'.rampHeld = false ∧
            (v < f'.granted → f'.state = .accelerating ∧ f'.timer = some (Time.plus s.deckTime x.accel)) ∧
            (v = f'.granted → f'.state = .steady) ∧
            (f'.granted < v → f'.state = .decelerating ∧ f'.timer = some (Time.plus s.deckTime x.decel)))) ∧
        (s.fans.find ch = none → f'.direction = t.dueDirection f' ∧
          (s.pins.fanFault.getLsbD ch = true → f'.state = .faulted ∧ f'.commanded = 0 ∧ f'.granted = 0) ∧
          (s.pins.fanFault.getLsbD ch = false → Fan.startedFromRest s.deckTime f'))) ∧
      (∀ a,
        let uncovered := fun (k : Nat) => ∃ q ∈ c.bays, q.2.node = a ∧ q.2.reference k = none
        let reset := a < 128 ∧ (uncovered (s.bandRecord a).band ∨
          ∃ k, s.pendingBand a = some { counted := true, band := k } ∧ uncovered k)
        (reset → t.pendingBand a = some { counted := false, band := 0 }) ∧ (¬ reset → t.pendingBand a = s.pendingBand a)) ∧
      (s.loop.state ≠ .draining → s.loop.current = none → FirstTransaction t)

/-- The ten checks, together: a working copy passes COMMIT exactly when every bay's row has a record; every row lies on the
level of its zone; every row's chain of parents reaches a root row within 8 rows on one level, whose pair bounds it; every pair
joins adjacent levels, or STREET to level 0; every head and fan has its zone; every fan's start, minimum run and maximum speeds
rise; no two bays share a node and channel; no two rows share a node; every bay has its band 0 reference; and every address in
use is in the poll list (R190). -/
def Obligations.CommitChecksAreTheTen : Prop :=
  ∀ c : Configuration, c.rising = true →
    (commitFailure c = none ↔
      (∀ p ∈ c.bays, ∃ r, c.rows.find p.2.row = some r) ∧
      (∀ p ∈ c.rows, ∃ z, c.zones.find p.2.zone = some z ∧ z.level = p.2.level) ∧
      (∀ p ∈ c.rows, chainReaches c p.2.level 8 p.1 = true) ∧
      (∀ p ∈ c.pairs, (∃ l, c.levels.find p.2.lower = some l) ∧
        ((p.2.upper = .street ∧ p.2.lower = 0) ∨
          ∃ u l, p.2.upper = .level u ∧ c.levels.find u = some l ∧ p.2.lower = u + 1)) ∧
      (∀ p ∈ c.heads, ∃ z, c.zones.find p.2.zone = some z) ∧
      (∀ p ∈ c.fans, ∃ z, c.zones.find p.2.zone = some z) ∧
      (∀ p ∈ c.fans, p.2.start ≤ p.2.minRun ∧ p.2.minRun ≤ p.2.maxSpeed) ∧
      (∀ p ∈ c.bays, ∀ q ∈ c.bays, p.2.node = q.2.node → p.2.channel = q.2.channel → p = q) ∧
      (∀ p ∈ c.rows, ∀ q ∈ c.rows, p.2.node = q.2.node → p = q) ∧
      (∀ p ∈ c.bays, ∃ r, p.2.ref0 = some r) ∧
      (∀ p ∈ c.bays, p.2.node ∈ c.pollList) ∧
      (∀ p ∈ c.levels, ∀ a, (p.2.sign1 = some a ∨ p.2.sign2 = some a) → a ∈ c.pollList) ∧
      (∀ p ∈ c.rows, p.2.node ∈ c.pollList) ∧
      (∀ p ∈ c.heads, 128 + p.1 ∈ c.pollList))

/-- DEFINE, DELETE and SET_POLL_LIST in CONFIG mode with no write in flight act on the working copy alone, but that the DELETE
of a fan sets the commanded speed of its channel to 0: a record whose fields fit is put there, answered with 1 where it
replaced one; one that is there is taken out; the poll list is cut before a position and the entries appended. Kinds, numbers,
fields, positions and entries out of range, and records that are not there, are refused with nothing changed (R188, R144, R189).
Of a bay, class and thresholds given as all ones take their defaults, references given as all ones are absent, every other field
stands as given, and the record is accepted exactly when each field lies in its range and the off threshold below the on
threshold: an on threshold of 250 or below with the off threshold left at its default is refused (R1, R188). -/
def Obligations.EditsReachWorkingCopy : Prop :=
  (∀ (s : State) (tag : Nat), Ready s .supervisor = true → s.inRun = false → s.writing = false →
    (∀ kind number fields, (Command.define kind number fields).lengthFits = true →
      (∀ c replaced, kindAndNumberFit kind number = true → s.workingCopy.define kind number fields = some (c, replaced) →
        exec (.define .supervisor tag kind number fields) s =
          replies s .supervisor tag 0x14 .done (leBytes 1 (bit replaced))
            { s with control := { s.control with working := some c } }) ∧
      ((kindAndNumberFit kind number = false ∨ s.workingCopy.define kind number fields = none) →
        exec (.define .supervisor tag kind number fields) s = replies s .supervisor tag 0x14 .badArgument [] s)) ∧
    (∀ kind number,
      (∀ c, kindAndNumberFit kind number = true → s.workingCopy.delete kind number = some c →
        exec (.delete .supervisor tag kind number) s =
          replies s .supervisor tag 0x15 .done []
            { s with
              control := { s.control with working := some c }
              fans := if kind = 9 then s.fans.modify number (fun f => { f with commanded := 0 }) else s.fans }) ∧
      (kindAndNumberFit kind number = true → s.workingCopy.delete kind number = none →
        exec (.delete .supervisor tag kind number) s = replies s .supervisor tag 0x15 .notFound [] s) ∧
      (kindAndNumberFit kind number = false →
        exec (.delete .supervisor tag kind number) s = replies s .supervisor tag 0x15 .badArgument [] s)) ∧
    (∀ position entries,
      let fits := 1 ≤ position ∧ position ≤ s.workingCopy.pollList.length + 1 ∧ (∀ a ∈ entries, a ≤ 239) ∧
        entries.length ≤ 128 ∧ position - 1 + entries.length ≤ 256
      let list := s.workingCopy.pollList.take (position - 1) ++ entries
      (fits →
        exec (.setPollList .supervisor tag position entries) s =
          replies s .supervisor tag 0x16 .done (leBytes 2 list.length)
            { s with control := { s.control with working := some { s.workingCopy with pollList := list } } }) ∧
      (¬ fits → exec (.setPollList .supervisor tag position entries) s = replies s .supervisor tag 0x16 .badArgument [] s))) ∧
  ∀ row cls node channel cost on off r0 r1 r2 r3 : Nat,
    let cls' := if cls = 0xFFFF then 0 else cls
    let on' := if on = 0xFFFF then 400 else on
    let off' := if off = 0xFFFF then 250 else off
    let ref := fun r => if r = 0xFFFF then none else some r
    (defineBay [row, cls, node, channel, cost, on, off, r0, r1, r2, r3] =
        some { row := row, cls := cls', node := node, channel := channel, cost := cost, onThr := on', offThr := off',
               ref0 := ref r0, ref1 := ref r1, ref2 := ref r2, ref3 := ref r3 } ↔
      row ≤ 63 ∧ cls' ≤ 3 ∧ node ≤ 127 ∧ channel ≤ 7 ∧ 50 ≤ on' ∧ on' ≤ 8000 ∧ 20 ≤ off' ∧ off' < on') ∧
    (on ≤ 250 → defineBay [row, cls, node, channel, cost, on, 0xFFFF, r0, r1, r2, r3] = none)

/-- The profile store. STORE_PROFILE takes the contents as they stand, clears the valid flag, leaves the store with no valid
profile, starts the write timer of 5.0 s and answers ACCEPTED. A completion with a good CRC puts those contents in the store and
sets the flag, one with a bad CRC leaves both as they are, each with its event; the write timer at its expiry abandons the
write; with no write in flight neither does anything (R192). -/
def Obligations.ProfileWritesEnd : Prop :=
  ∀ (s : State) (tag : Nat),
    (Ready s .supervisor = true → s.writing = false →
      exec (.storeProfile .supervisor tag) s =
        replies s .supervisor tag 0x12 .accepted []
          { s with
            control :=
              { s.control with
                profileValid := false, store := none,
                write := some { started := s.deckTime, expires := Time.plus s.deckTime 50, contents := profileOf s } } }) ∧
    (∀ w, s.control.resetHeld = false → s.control.write = some w →
      exec (.profileWriteCompletion true) s =
        .next
          (post .profileStored 0 (Time.since s.deckTime w.started) 0
            { s with control := { s.control with write := none, profileValid := true, store := some w.contents } }) ∧
      exec (.profileWriteCompletion false) s =
        .next (post .profileFailed 0 1 0 { s with control := { s.control with write := none } }) ∧
      (Time.reached s.deckTime w.expires = true →
        exec .profileWriteTimerExpiry s =
          .next (post .profileFailed 0 0 0 { s with control := { s.control with write := none } }))) ∧
    (∀ good, s.control.write = none →
      exec (.profileWriteCompletion good) s = .next s ∧ exec .profileWriteTimerExpiry s = .next s)

/-- A full restart with no valid profile in the store, or with a write in flight, leaves every block as at reset, in CONFIG
with an empty working copy and every table at its default, deck time 0, the ports emptied and RESTARTED queued with its cause
on every station: by POWER_ON, which latches the strap, by RESET_N released, and by RESTART HARD (R193, R192, R181). POWER_ON
is taken with RESET_N high, also on a part that RESET_N holds: the model's choice (DESIGN CHOICE, log entry 7). F, B and the
scales stand at 0 until the first computation (DESIGN CHOICE, log entry 39). -/
def Obligations.RestartWithoutProfileClears : Prop :=
  ∀ s : State, (s.control.store = none ∨ s.writing = true) →
    (∀ strap,
      exec (.powerOn strap) s =
        .next (blankRestart .powerOn { s with control := { s.control with strapHigh := strap } })) ∧
    (s.control.resetHeld = true → exec .resetNReleased s = .next (blankRestart .pin s)) ∧
    (∀ tag, Ready s .supervisor = true → exec (.restartHard .supervisor tag) s = .next (blankRestart .hardCommand s))

/-- A full restart with a valid profile in the store starts in RUN with the profile in force and every record at its restart
values: bays UNKNOWN and learning, ramps, levels, heads and zones afresh, rows at their active level, fans STOPPED before their
first grant or FAULTED where the input is asserted, a band reset pending for each node that carries a bay, health records clear,
the first computation taken, the walk begun at its first entry, the ports emptied, and RESTARTED first in every queue (R193,
R181, R24, R15, R44, R74, R93, R122, R145, R160, R171). POWER_ON is taken with RESET_N high, also on a part that RESET_N holds:
the model's choice (DESIGN CHOICE, log entry 7). -/
def Obligations.RestartLoadsProfile : Prop :=
  ∀ (s : State) (p : Profile), s.control.store = some p → s.writing = false →
    (∀ strap, ∃ t, exec (.powerOn strap) s = .next t ∧
      ProfileLoaded p .powerOn { s with control := { s.control with strapHigh := strap } } t) ∧
    (s.control.resetHeld = true → ∃ t, exec .resetNReleased s = .next t ∧ ProfileLoaded p .pin s t) ∧
    (∀ tag, Ready s .supervisor = true →
      ∃ t, exec (.restartHard .supervisor tag) s = .next t ∧ ProfileLoaded p .hardCommand s t)

/-- RESTART SOFT empties the ports and queues RESTARTED, cuts the field transaction in flight short, and sets the walk back to
the first entry; everything else stands; its own response is lost (R194, R181, R171; with no transaction in flight there is no
drain, log entry 40). RESET_N going low holds the part in restart: until it rises, or power is applied, no command and no timer
acts. Deck time counts one tenth of a second, returning to 0 after its last value (R193, R186; what still acts while the part is
held is log entry 6, that POWER_ON does log entry 7). -/
def Obligations.SoftRestartHoldAndTime : Prop :=
  (∀ (s : State) (tag : Nat), Ready s .supervisor = true → s.writing = false →
     exec (.restartSoft .supervisor tag) s =
       .next
         { s with
           control := { s.control with cause := .softCommand }
           ports :=
             { supervisor := portRestarted s.deckTime .softCommand s.control.profileValid s.control.mode
                 s.ports.supervisor.mask s.ports.supervisor
               lane := portRestarted s.deckTime .softCommand s.control.profileValid s.control.mode
                 s.ports.lane.mask s.ports.lane
               guidance := portRestarted s.deckTime .softCommand s.control.profileValid s.control.mode
                 s.ports.guidance.mask s.ports.guidance }
           loop :=
             { s.loop with
               current := none
               next := if s.loop.pollList = [] then 0 else 1
               state := if s.loop.current = none then s.loop.state else .draining } }) ∧
  ∀ s : State,
    exec .resetNAsserted s = .next { s with control := { s.control with resetHeld := true } } ∧
    (s.control.resetHeld = false →
      ∃ t, exec .deckTimeTick s = .next t ∧ t = { s with deckTime := t.deckTime } ∧
        t.deckTime.toNat = (if s.deckTime.toNat = 4294967295 then 0 else s.deckTime.toNat + 1)) ∧
    (s.control.resetHeld = true →
      (∀ i st e, i.entry = some (st, e) → exec i s = .next s) ∧
      ∀ n : Nat, ∀ i ∈ [Instr.settleTimerExpiry n, .censusMinuteTimerExpiry, .censusStartTimerExpiry, .driftTimerExpiry n,
        .fieldRequestSent, .replyTimerExpiry, .drainEnd, .waitTimerExpiry n, .holdExpiry n, .lightTimerExpiry n,
        .riseTimerExpiry n, .fadeTimerExpiry n, .airMinuteTimerExpiry, .dwellTimerExpiry n, .overrideTimerExpiry n,
        .accelerationTimerExpiry n, .decelerationTimerExpiry n, .reverseDwellExpiry n, .profileWriteTimerExpiry,
        .deckTimeTick], exec i s = .next s)

/-! ### Tables and settings of allocation and supply (chapters 3 and 7) -/

/-- SET_CLASS_TABLE and SET_PENALTY in CONFIG mode write their table whole and run a pass; an entry out of range refuses them
and the table stands. SET_GUIDANCE_TIMES in either mode stores the times clamped and the substitution flag, and answers them as
stored, DONE_CLAMPED where one was clamped; another flag refuses it. Requests and holds in place keep their deadlines and
expiries (R57, R58, R59). SET_STAGE_TABLE in CONFIG mode takes a table whose values lie in their ranges and do not fall from
stage to stage, and evaluates every zone, in rising number (the order is the model's choice, log entry 38); any other is refused
and the table stands. SET_TRAFFIC_TABLE in either mode replaces the eight slots of a level, in CONFIG mode in the working copy
and in force; a level above 7 or a slot out of range is refused with BAD_ARGUMENT, a level with no record with NOT_FOUND (R110,
R116). -/
def Obligations.TablesWritten : Prop :=
  (∀ (s : State) (tag : Nat), Ready s .supervisor = true → s.writing = false →
     (∀ entries : List Nat, entries.length = 16 → s.inRun = false →
       ((∀ e ∈ entries, e ≤ 2) →
         exec (.setClassTable .supervisor tag entries) s =
           replies s .supervisor tag 0x17 .done []
             (allocationPass { s with guidance := { s.guidance with classTable := entries } })) ∧
       ((∃ e ∈ entries, 2 < e) →
         exec (.setClassTable .supervisor tag entries) s = replies s .supervisor tag 0x17 .badArgument [] s)) ∧
     (∀ penalties : List Nat, penalties.length = 4 → s.inRun = false →
       ((∀ e ∈ penalties, e ≤ 65534) →
         exec (.setPenalty .supervisor tag penalties) s =
           replies s .supervisor tag 0x18 .done []
             (allocationPass { s with guidance := { s.guidance with penalties := penalties } })) ∧
       ((∃ e ∈ penalties, 65534 < e) →
         exec (.setPenalty .supervisor tag penalties) s = replies s .supervisor tag 0x18 .badArgument [] s)) ∧
     (∀ wait hold flag : Nat,
       let w := if wait < 60 then 60 else if 3600 < wait then 3600 else wait
       let h := if hold < 60 then 60 else if 900 < hold then 900 else hold
       (flag ≤ 1 →
         exec (.setGuidanceTimes .supervisor tag wait hold flag) s =
           replies s .supervisor tag 0x2B (if w = wait ∧ h = hold then .done else .doneClamped)
             (joinFields [2, 2, 1] [w, h, flag])
             { s with guidance := { s.guidance with maxWait := w, holdTime := h, substitution := decide (flag = 1) } }) ∧
       (1 < flag →
         exec (.setGuidanceTimes .supervisor tag wait hold flag) s = replies s .supervisor tag 0x2B .badArgument [] s))) ∧
  ∀ (s : State) (tag : Nat), Ready s .supervisor = true → s.writing = false →
    (∀ (s1 s2 s3 s4 : StageRow) (hysteresis dwell : Nat), s.inRun = false →
      let inRange := fun (r : StageRow) => 1 ≤ r.coMean ∧ r.coMean ≤ 1000 ∧ 1 ≤ r.coInst ∧ r.coInst ≤ 1000 ∧
        1 ≤ r.no2Inst ∧ r.no2Inst ≤ 500 ∧ r.demand ≤ 100
      let below := fun (r u : StageRow) => r.coMean ≤ u.coMean ∧ r.coInst ≤ u.coInst ∧ r.no2Inst ≤ u.no2Inst ∧
        r.demand ≤ u.demand
      let fits := inRange s1 ∧ inRange s2 ∧ inRange s3 ∧ inRange s4 ∧ below s1 s2 ∧ below s2 s3 ∧ below s3 s4 ∧
        hysteresis ≤ 50 ∧ 30 ≤ dwell ∧ dwell ≤ 1800
      (fits →
        exec (.setStageTable .supervisor tag [s1, s2, s3, s4] hysteresis dwell) s =
          replies s .supervisor tag 0x21 .done []
            (forEach (s.zones.map (·.1)) evaluateZone
              { s with stageTable := { stages := [s1, s2, s3, s4], hysteresis := hysteresis, dwell := dwell } })) ∧
      (¬ fits →
        exec (.setStageTable .supervisor tag [s1, s2, s3, s4] hysteresis dwell) s =
          replies s .supervisor tag 0x21 .badArgument [] s)) ∧
    (∀ (level : Nat) (slots : List SlotOperand), slots.length = 8 →
      let fits := level ≤ 7 ∧ ∀ x ∈ slots, x.presence = 0 ∨
        (x.presence = 1 ∧ x.lower ≤ x.upper ∧ (x.demand ≤ 100 ∨ x.demand = 255))
      let table := slots.map fun x =>
        if x.presence = 0 then none else some { lower := x.lower, upper := x.upper, demand := x.demand }
      let s1 := { s with
        levels := s.levels.modify level fun l => { l with cfg := { l.cfg with traffic := table } } }
      let s2 := { s1 with
        control :=
          { s.control with
            working := some
              { s.workingCopy with
                levels := s.workingCopy.levels.modify level fun c => { c with traffic := table } } } }
      let there := if s.inRun then s.levels.has level else s.workingCopy.levels.has level
      (fits → there = true →
        exec (.setTrafficTable .supervisor tag level slots) s =
          replies s .supervisor tag 0x22 .done [] (if s.inRun then settle s s1 else s2)) ∧
      (fits → there = false →
        exec (.setTrafficTable .supervisor tag level slots) s = replies s .supervisor tag 0x22 .notFound [] s) ∧
      (¬ fits →
        exec (.setTrafficTable .supervisor tag level slots) s = replies s .supervisor tag 0x22 .badArgument [] s))

/-- The effective allowance. SET_ALLOWANCE in either mode stores both allowances clamped and answers them, the SHED level and A,
DONE_CLAMPED where one was clamped; a change of SHED sets A afresh. In CONFIG mode nothing else follows; in RUN mode, with the
fans' requests up to date, one computation is taken where A has changed and none where it has not (R149, R148; the SHED level
takes one byte of the response: DESIGN CHOICE, log entry 19). While RESET_N holds the part the SHED level is followed and nothing
computed (DEDUCED, log entry 6). -/
def Obligations.AllowanceChangesAct : Prop :=
  ∀ (s : State),
    (∀ tag normal shed, Ready s .supervisor = true → s.writing = false →
      let n := if normal < 1000 then 1000 else if 2000000 < normal then 2000000 else normal
      let d := if shed < 1000 then 1000 else if 2000000 < shed then 2000000 else shed
      let a := if s.pins.shed then d else n
      let s1 := { s with supply := { s.supply with normal := n, shed := d } }
      let reply := replies s .supervisor tag 0x20 (if n = normal ∧ d = shed then .done else .doneClamped)
        (joinFields [4, 4, 1, 4] [n, d, bit s.pins.shed, a])
      (s.inRun = false → exec (.setAllowance .supervisor tag normal shed) s = reply s1) ∧
      (s.inRun = true → handDemands s = s →
        exec (.setAllowance .supervisor tag normal shed) s =
          reply (if a = s.allowance then s1 else compute false s1))) ∧
    (∀ asserted,
      let a := if asserted then s.supply.shed else s.supply.normal
      let s1 := { s with pins := { s.pins with shed := asserted } }
      ((s.inRun = false ∨ s.control.resetHeld = true) → exec (.shedChange asserted) s = .next s1) ∧
      (s.inRun = true → s.control.resetHeld = false → handDemands s = s →
        exec (.shedChange asserted) s = .next (if a = (if s.pins.shed then s.supply.shed else s.supply.normal) then s1 else compute false s1)))

/-! ### Requests, holds and claims (chapter 3) -/

/-- REQUEST_BAY in RUN mode from the lane or the guidance station issues the next ticket, places a request with the wait
deadline in force, runs the pass and answers ASSIGNED with the hold's bay, level and row, or QUEUED with the position; operands
out of range, or a priority flag from the lane station, are refused with BAD_ARGUMENT, and a queue of 32 with QUEUE_FULL (R49).
-/
def Obligations.RequestBayPlacesRequest : Prop :=
  ∀ (s : State) (st : Station) (tag cls lane priority : Nat), Ready s st = true → inClass 0x30 st = true → s.inRun = true →
    let fits := cls ≤ 3 ∧ lane ≤ 3 ∧ priority ≤ 1 ∧ ¬ (priority = 1 ∧ st = .lane)
    let ticket := issueTicket s.guidance
    let request : Request :=
      { ticket := ticket, station := st, cls := cls, lane := lane, priority := decide (priority = 1), enqueued := s.deckTime,
        deadline := Time.plus s.deckTime (s.guidance.maxWait * 10) }
    let t := settle s
      (allocationPassFor (some ticket)
        { s with guidance := { s.guidance with lastTicket := ticket, queue := enqueue request s.guidance.queue } })
    (fits → s.guidance.queue.length < 32 → ∀ h, findHold t.guidance.holds ticket = some h →
      exec (.requestBay st tag cls lane priority) s =
        replies s st tag 0x30 .done
          (joinFields [2, 1, 2, 1, 1] [ticket, 0, h.bay, h.level, ((t.bays.find h.bay).map (·.cfg.row)).getD 0]) t) ∧
    (fits → s.guidance.queue.length < 32 → findHold t.guidance.holds ticket = none →
      exec (.requestBay st tag cls lane priority) s =
        replies s st tag 0x30 .done (joinFields [2, 1, 1] [ticket, 1, queuePosition t.guidance.queue ticket]) t) ∧
    (¬ fits → exec (.requestBay st tag cls lane priority) s = replies s st tag 0x30 .badArgument [] s) ∧
    (fits → 32 ≤ s.guidance.queue.length →
      exec (.requestBay st tag cls lane priority) s = replies s st tag 0x30 .queueFull [] s)

/-- WITHDRAW takes the request of a ticket out of the queue and answers its position, telling the issuing station when another
withdraws it; a ticket with a hold is refused with REFUSED_STATE and its bay. WITHDRAW_NEWEST takes out the caller's request
nearest the tail. CANCEL_HOLD ends the hold of a ticket with reason CANCELLED, answers its bay and runs a pass; a queued ticket
is refused. A ticket of 0 is refused with BAD_ARGUMENT, one that is not live with NOT_FOUND (R51, R52, R65, R61). The wait timer
of a request takes it from the queue and tells its station, with reason WAIT and its entry lane; the expiry of a hold takes it
off the list, opens its bay, tells its station with reason TIME and runs a pass (R50, R63, R61). That an expiry is a row which
acts once its time is reached is the model's choice (DESIGN CHOICE, log entry 8), and so is the place of the computation at the
end of an event (DEDUCED, log entry 11). -/
def Obligations.TicketsEnd : Prop :=
  (∀ (s : State) (st : Station) (tag t : Nat), Ready s st = true → inClass 0x31 st = true →
     let without : State := { s with guidance := { s.guidance with queue := dropRequest s.guidance.queue t } }
     (∀ r, t ≠ 0 → findRequest s.guidance.queue t = some r →
       exec (.withdraw st tag t) s =
         replies s st tag 0x31 .done (leBytes 1 (queuePosition s.guidance.queue t))
           (if r.station = st then without else postTo r.station .requestLapsed t 2 r.lane without) ∧
       (findHold s.guidance.holds t = none → exec (.cancelHold st tag t) s = replies s st tag 0x33 .refusedState [] s)) ∧
     (∀ h, t ≠ 0 → findHold s.guidance.holds t = some h →
       exec (.cancelHold st tag t) s =
         replies s st tag 0x33 .done (leBytes 2 h.bay)
           (settle s
             (allocationPass
               (postTo h.station .holdLapsed h.ticket h.bay 1
                 (setAdmin h.bay .opened
                   { s with
                     guidance :=
                       { s.guidance with
                         holds := s.guidance.holds.filter fun x => decide (x.ticket ≠ h.ticket) } })))) ∧
       (findRequest s.guidance.queue t = none →
         exec (.withdraw st tag t) s = replies s st tag 0x31 .refusedState (leBytes 2 h.bay) s)) ∧
     (t ≠ 0 → findRequest s.guidance.queue t = none → findHold s.guidance.holds t = none →
       exec (.withdraw st tag t) s = replies s st tag 0x31 .notFound [] s ∧
       exec (.cancelHold st tag t) s = replies s st tag 0x33 .notFound [] s) ∧
     (exec (.withdraw st tag 0) s = replies s st tag 0x31 .badArgument [] s ∧
       exec (.cancelHold st tag 0) s = replies s st tag 0x33 .badArgument [] s) ∧
     (∀ before r after, s.guidance.queue = before ++ r :: after → r.station = st → (∀ x ∈ after, x.station ≠ st) →
       exec (.withdrawNewest st tag) s =
         replies s st tag 0x32 .done (joinFields [2, 1] [r.ticket, queuePosition s.guidance.queue r.ticket])
           { s with guidance := { s.guidance with queue := dropRequest s.guidance.queue r.ticket } }) ∧
     ((∀ x ∈ s.guidance.queue, x.station ≠ st) →
       exec (.withdrawNewest st tag) s = replies s st tag 0x32 .notFound [] s)) ∧
  ∀ (s : State) (ticket : Nat), s.control.resetHeld = false →
    (∀ r, findRequest s.guidance.queue ticket = some r → Time.reached s.deckTime r.deadline = true →
      exec (.waitTimerExpiry ticket) s =
        .next
          (postTo r.station .requestLapsed ticket 0 r.lane
            { s with guidance := { s.guidance with queue := dropRequest s.guidance.queue ticket } })) ∧
    (∀ h, findHold s.guidance.holds ticket = some h → Time.reached s.deckTime h.expiry = true →
      exec (.holdExpiry ticket) s =
        .next
          (settle s
            (allocationPass
              (postTo h.station .holdLapsed h.ticket h.bay 0
                (setAdmin h.bay .opened
                  { s with
                    guidance :=
                      { s.guidance with holds := s.guidance.holds.filter fun x => decide (x.ticket ≠ h.ticket) } })))))

/-- The claim and closure commands of the guidance and supervisor stations on a bay in force: CLAIM_BAY claims it where its
admin state is the one expected, and answers MISMATCH with both its states where it is not; CLOSE_BAY closes it, ending a hold
first; RELEASE_CLAIM and OPEN_BAY open a CLAIMED and a CLOSED bay and run a pass, and are refused with its admin state in any
other. A bay above 1023 or an expected HELD is refused with BAD_ARGUMENT, a bay with no record with NOT_FOUND (R68, R70, R66,
R71). -/
def Obligations.ClaimCommandsMoveAdminState : Prop :=
  ∀ (s : State) (st : Station) (tag bay : Nat), Ready s st = true → inClass 0x38 st = true →
    (∀ b expected, bay ≤ 1023 → s.bays.find bay = some b → (expected = 0 ∨ expected = 2 ∨ expected = 3) →
      (b.admin.code = expected →
        exec (.claimBay st tag bay expected) s =
          replies s st tag 0x38 .done (leBytes 1 expected) (setAdmin bay (.claimed st) s)) ∧
      (b.admin.code ≠ expected →
        exec (.claimBay st tag bay expected) s =
          replies s st tag 0x38 .mismatch (joinFields [1, 1] [b.admin.code, b.sensed.code]) s)) ∧
    (∀ b, bay ≤ 1023 → s.bays.find bay = some b →
      ((b.admin = .opened ∨ ∃ c, b.admin = .claimed c) →
        exec (.closeBay st tag bay) s =
          replies s st tag 0x3A .done (joinFields [1, 2] [b.admin.code, 0]) (setAdmin bay .closed s)) ∧
      (b.admin = .closed → exec (.closeBay st tag bay) s = replies s st tag 0x3A .done (joinFields [1, 2] [3, 0]) s) ∧
      (∀ t h, b.admin = .held t → findHold s.guidance.holds t = some h →
        exec (.closeBay st tag bay) s =
          replies s st tag 0x3A .done (joinFields [1, 2] [1, t])
            (settle s
              (allocationPass
                (postTo h.station .holdLapsed h.ticket h.bay 2
                  (setAdmin h.bay .closed
                    { s with
                      guidance :=
                        { s.guidance with
                          holds := s.guidance.holds.filter fun x => decide (x.ticket ≠ h.ticket) } }))))) ∧
      (∀ c, b.admin = .claimed c →
        exec (.releaseClaim st tag bay) s =
          replies s st tag 0x39 .done (leBytes 1 (Station.code c)) (settle s (allocationPass (setAdmin bay .opened s)))) ∧
      ((¬ ∃ c, b.admin = .claimed c) →
        exec (.releaseClaim st tag bay) s = replies s st tag 0x39 .refusedState (leBytes 1 b.admin.code) s) ∧
      (b.admin = .closed →
        exec (.openBay st tag bay) s =
          replies s st tag 0x3B .done [] (settle s (allocationPass (setAdmin bay .opened s)))) ∧
      (b.admin ≠ .closed →
        exec (.openBay st tag bay) s = replies s st tag 0x3B .refusedState (leBytes 1 b.admin.code) s)) ∧
    (bay ≤ 1023 → s.bays.find bay = none →
      exec (.closeBay st tag bay) s = replies s st tag 0x3A .notFound [] s ∧
      exec (.releaseClaim st tag bay) s = replies s st tag 0x39 .notFound [] s ∧
      exec (.openBay st tag bay) s = replies s st tag 0x3B .notFound [] s ∧
      ∀ expected, (expected = 0 ∨ expected = 2 ∨ expected = 3) →
        exec (.claimBay st tag bay expected) s = replies s st tag 0x38 .notFound [] s) ∧
    (1023 < bay →
      exec (.closeBay st tag bay) s = replies s st tag 0x3A .badArgument [] s ∧
      exec (.releaseClaim st tag bay) s = replies s st tag 0x39 .badArgument [] s ∧
      exec (.openBay st tag bay) s = replies s st tag 0x3B .badArgument [] s) ∧
    (∀ expected, (1023 < bay ∨ (expected ≠ 0 ∧ expected ≠ 2 ∧ expected ≠ 3)) →
      exec (.claimBay st tag bay expected) s = replies s st tag 0x38 .badArgument [] s)

/-- A ticket issued is a number 1 to 65535 that no request and no hold has, whatever the last number issued (R47). The guidance
queue keeps its two sections: a new priority request goes directly after the last one, a new ordinary one to the tail, each
section in the order its requests were made (R48). The hold list keeps its order by expiry and ticket, seen from the present
deck time (R60; signed distances of deck time: DEDUCED, log entry 16). -/
def Obligations.TicketsAndListsKeepOrder : Prop :=
  (∀ g : Guidance, g.queue.length ≤ 32 → g.holds.length ≤ 64 →
     1 ≤ issueTicket g ∧ issueTicket g ≤ 65535 ∧ issueTicket g ∉ liveTickets g) ∧
  (∀ (r : Request) (priority ordinary : List Request),
    (∀ x ∈ priority, x.cls = 1 ∨ x.priority = true) → (∀ x ∈ ordinary, ¬ (x.cls = 1 ∨ x.priority = true)) →
      ((r.cls = 1 ∨ r.priority = true) → enqueue r (priority ++ ordinary) = priority ++ r :: ordinary) ∧
      (¬ (r.cls = 1 ∨ r.priority = true) → enqueue r (priority ++ ordinary) = priority ++ (ordinary ++ [r]))) ∧
  (∀ (now : Time) (h : Hold) (l : List Hold), l.Pairwise (fun x y => holdBefore now x y = true) →
    (∀ x ∈ l, x.ticket ≠ h.ticket) →
      (insertHold now h l).Pairwise (fun x y => holdBefore now x y = true) ∧ (insertHold now h l).Perm (h :: l))

/-- The bay a pass chooses for a request class is a candidate, and of all candidates the first by rank, then by effective cost,
then by number; none is chosen exactly when there is no candidate (R55). Where the class table holds the rank of a pair of
classes is the model's choice (DEDUCED, log entry 44). -/
def Obligations.PassChoosesFirstCandidate : Prop :=
  ∀ (s : State) (cls : Nat), s.bays.rising = true →
    let candidate := fun (b : Bay) =>
      b.admin = .opened ∧ b.sensed = .vacant ∧ s.rowStage b.cfg.row < 4 ∧ rankOf s.guidance cls b.cfg.cls < 2
    let cost := fun (b : Bay) => min 65535 (b.cfg.cost + s.guidance.penalties.getD (s.rowStage b.cfg.row) 0)
    (∀ n b, chooseBay s cls = some (n, b) → s.bays.find n = some b ∧ candidate b ∧
      ∀ m c, s.bays.find m = some c → candidate c → (m, c) ≠ (n, b) →
        rankOf s.guidance cls b.cfg.cls < rankOf s.guidance cls c.cfg.cls ∨
        (rankOf s.guidance cls b.cfg.cls = rankOf s.guidance cls c.cfg.cls ∧
          (cost b < cost c ∨ (cost b = cost c ∧ n < m)))) ∧
    (chooseBay s cls = none ↔ ∀ m c, s.bays.find m = some c → ¬ candidate c)

/-- Serving a request, whole: the bay HELD with its ticket; a hold placed in the list with its station, class, level, times and
path; the request out of the queue; BAY_ASSIGNED to its station unless its own REQUEST_BAY is served; one movement for the
level; the rows of the path triggered; and nothing else (R56, R60, R76). The pass takes the requests front to tail, passes over
one with no candidate and stops where the hold list is full (R55): so a request leaves the queue only with a hold of its ticket,
no hold ends, and where the hold list is not full at the end no request left has a candidate. -/
def Obligations.PassServesRequests : Prop :=
  (∀ (own : Option Nat) (r : Request) (n : Nat) (b : Bay) (s : State), s.bays.find n = some b → s.rows.rising = true →
    let level := s.rowLevel b.cfg.row
    let hold : Hold :=
      { ticket := r.ticket, bay := n, station := r.station, cls := r.cls, level := level, issued := s.deckTime,
        expiry := Time.plus s.deckTime (s.guidance.holdTime * 10), path := s.path b.cfg.row }
    let held := setAdmin n (.held r.ticket) s
    let told := if own = some r.ticket then held else postTo r.station .bayAssigned r.ticket n (level * 256 + b.cfg.row) held
    let t := serve own r n b s
    t.bays.find n = some { b with admin := .held r.ticket } ∧ (∀ m, m ≠ n → t.bays.find m = s.bays.find m) ∧
    t.guidance =
      { s.guidance with
        holds := insertHold s.deckTime hold s.guidance.holds
        queue := s.guidance.queue.filter fun x => decide (x.ticket ≠ r.ticket) } ∧
    t.ports = told.ports ∧
    (∀ k, t.levels.find k =
      (s.levels.find k).map fun l => if k = level then { l with ring := addMovement l.ring } else l) ∧
    (∀ k, t.rows.find k = (s.rows.find k).map fun x =>
      if k ∈ s.path b.cfg.row then
        { x with requested := x.cfg.active, lightTimer := some (Time.plus s.deckTime (x.cfg.holdTime * 10)) }
      else x) ∧
    DeviceAgrees s t ∧ PortsAgree s t ∧ t.control = s.control ∧ t.bands = s.bands ∧ t.jitter = s.jitter ∧ t.pairs = s.pairs ∧
    t.heads = s.heads ∧ t.zones = s.zones ∧ t.fans = s.fans ∧ t.supply = s.supply ∧ t.loop = s.loop) ∧
  (∀ (own : Option Nat) (r : Request) (rest : List Request) (s : State),
    (64 ≤ s.guidance.holds.length → passOver own (r :: rest) s = s) ∧
    (s.guidance.holds.length < 64 → chooseBay s r.cls = none → passOver own (r :: rest) s = passOver own rest s) ∧
    (∀ n b, s.guidance.holds.length < 64 → chooseBay s r.cls = some (n, b) →
      passOver own (r :: rest) s = passOver own rest (serve own r n b s))) ∧
  ∀ (own : Option Nat) (s : State),
    let t := allocationPassFor own s
    t = passOver own s.guidance.queue s ∧ t.guidance.queue.Sublist s.guidance.queue ∧
    (∀ r ∈ s.guidance.queue, r ∈ t.guidance.queue ∨ ∃ h ∈ t.guidance.holds, h.ticket = r.ticket) ∧
    (∀ h ∈ s.guidance.holds, h ∈ t.guidance.holds) ∧
    (64 ≤ t.guidance.holds.length ∨ ∀ r ∈ t.guidance.queue, chooseBay t r.cls = none)

/-! ### Ramps and the census (chapter 2) -/

/-- A ramp input that changes level is stored and starts the settle timer of its pair, where the pair is defined, afresh at
0.1 s; one that does not change does nothing. The expiry of a settle timer, by the change of phase the raw levels bring: none leaves filter and decoder; a step forward or
back moves the position by one, kept within −8 to +8; a jump of two phases leaves the position, sets the spoiled flag and posts
RAMP_GLITCH; and a change to phase 0 makes the pair idle, counts a crossing down at +4 and up at −4 where it is not spoiled, and
checks a pending census of each level the pair bounds (R28 to R32, R40). The expiry as a row (DESIGN CHOICE, log entry 8), the
order of the two levels (DESIGN CHOICE, log entry 38) and the place of the computation (DEDUCED, log entry 11) are the model's
choices. -/
def Obligations.RampInputsAreDecoded : Prop :=
  (∀ (s : State) (pair : Fin 16) (high : Bool), s.control.resetHeld = false →
    (s.pins.rampA.getLsbD pair = high → exec (.rampInputChange pair .a high) s = .next s) ∧
    (s.pins.rampB.getLsbD pair = high → exec (.rampInputChange pair .b high) s = .next s) ∧
    (∀ side, s.pins.ramp pair side ≠ high →
      ∃ pins, exec (.rampInputChange pair side high) s =
          .next
            { s with
              pins := pins
              pairs := s.pairs.modify pair fun p => { p with settle := some (s.deckTime + 1#32) } } ∧
        pins.fanFault = s.pins.fanFault ∧ pins.shed = s.pins.shed ∧
        ∀ (k : Fin 16) (x : LoopSide), pins.ramp k x = (if k = pair ∧ x = side then high else s.pins.ramp k x))) ∧
  ∀ (s : State) (pair : Nat) (p : RampPair) (e : Time), s.control.resetHeld = false → s.pairs.find pair = some p →
    p.settle = some e → Time.reached s.deckTime e = true →
    let a := s.pins.rampA.getLsbD pair
    let b := s.pins.rampB.getLsbD pair
    let old := phaseOf p.filteredA p.filteredB
    let new := phaseOf a b
    let at' := fun (position : Int) (spoiled : Bool) =>
      s.modPair pair fun _ =>
        { p with filteredA := a, filteredB := b, position := position, spoiled := spoiled, settle := none }
    let moved : Int := if (new + 4 - old) % 4 = 1 then min 8 (max (-8) (p.position + 1))
      else if (new + 4 - old) % 4 = 3 then max (-8) (min 8 (p.position - 1)) else p.position
    let spoilt := p.spoiled || decide ((new + 4 - old) % 4 = 2)
    let idle := if (new + 4 - old) % 4 = 2 then post .rampGlitch pair old new (at' 0 false) else at' 0 false
    (p.filteredA = a → p.filteredB = b →
      exec (.settleTimerExpiry pair) s = .next (settle s (s.modPair pair fun _ => { p with settle := none }))) ∧
    (new ≠ 0 → (new + 4 - old) % 4 = 2 →
      exec (.settleTimerExpiry pair) s = .next (settle s (post .rampGlitch pair old new (at' p.position true)))) ∧
    (new ≠ 0 → ((new + 4 - old) % 4 = 1 ∨ (new + 4 - old) % 4 = 3) →
      exec (.settleTimerExpiry pair) s = .next (settle s (at' moved p.spoiled))) ∧
    (new = 0 → old ≠ 0 →
      exec (.settleTimerExpiry pair) s =
        .next
          (settle s
            (forEach p.cfg.boundedLevels censusCheck
              (if spoilt = false ∧ moved = 4 then crossing pair p.cfg true idle
               else if spoilt = false ∧ moved = -4 then crossing pair p.cfg false idle
               else idle))))

/-- What a counted crossing does to the levels its pair bounds: the count of the level entered goes up by 1 and of the level
left down by 1, each tested on its own, so that one that would leave 0 to 2047 stands; each level's current bucket takes one
movement; STREET has no count; and the root rows whose parent is the pair are triggered (R32, R34, R36, R77). -/
def Obligations.CrossingMovesCounts : Prop :=
  ∀ (s : State) (pair : Nat) (c : PairCfg) (down : Bool), c.upper ≠ .level c.lower →
    let t := crossing pair c down s
    let moved := fun (l : Level) (up : Bool) =>
      if up then (if l.count < 2047 then l.count + 1 else l.count) else l.count - 1
    (∀ l, s.levels.find c.lower = some l → ∃ l', t.levels.find c.lower = some l' ∧ l'.cfg = l.cfg ∧
      l'.count = moved l down ∧ l'.ring = addMovement l.ring ∧ l'.pending = l.pending) ∧
    (∀ u l, c.upper = .level u → s.levels.find u = some l → ∃ l', t.levels.find u = some l' ∧ l'.cfg = l.cfg ∧
      l'.count = moved l (!down) ∧ l'.ring = addMovement l.ring ∧ l'.pending = l.pending) ∧
    (∀ n, n ≠ c.lower → c.upper ≠ .level n → t.levels.find n = s.levels.find n) ∧
    (s.rows.rising = true → ∀ n, t.rows.find n = (s.rows.find n).map fun r =>
      if r.cfg.parent = .pair pair then
        { r with requested := r.cfg.active, lightTimer := some (Time.plus s.deckTime (r.cfg.holdTime * 10)) }
      else r) ∧
    DeviceAgrees s t ∧ PortsAgree s t ∧ t.control = s.control ∧ t.bays = s.bays ∧ t.bands = s.bands ∧ t.pairs = s.pairs ∧
    t.heads = s.heads ∧ t.zones = s.zones ∧ t.fans = s.fans ∧ t.guidance = s.guidance ∧ t.supply = s.supply ∧ t.loop = s.loop

/-- CENSUS in RUN mode on a level in force: a level already pending is answered outcome 1 and nothing changes; otherwise its
census is pending and checked at once: with every pair that bounds it idle the count takes the present count and the outcome is
2, else it stays pending with outcome 0; the count is answered as it then stands. A level above 7 is refused with BAD_ARGUMENT,
one with no record with NOT_FOUND (R39, R40). The minute timer drops the oldest bucket of every level's ring and opens a new one
at 0, and runs again for 60.0 s from its expiry (R37; DEDUCED, log entry 9). The start timer sets the census of every level
pending and checks each, in rising number (R41; the order is the model's choice, log entry 38). The drift timer of a level that
is TIMING posts CENSUS_DRIFT with both its counts and makes it REPORTED (R42). -/
def Obligations.CensusIsTaken : Prop :=
  (∀ (s : State) (tag level : Nat), Ready s .supervisor = true → s.inRun = true →
     let idle := ∀ p ∈ s.pairs, (p.2.cfg.upper = .level level ∨ p.2.cfg.lower = level) →
       p.2.filteredA = false ∧ p.2.filteredB = false ∧ p.2.position = 0
     (7 < level → exec (.census .supervisor tag level) s = replies s .supervisor tag 0x29 .badArgument [] s) ∧
     (level ≤ 7 → s.levels.find level = none →
       exec (.census .supervisor tag level) s = replies s .supervisor tag 0x29 .notFound [] s) ∧
     (∀ l, level ≤ 7 → s.levels.find level = some l → l.pending = true →
       exec (.census .supervisor tag level) s = replies s .supervisor tag 0x29 .done (joinFields [1, 2] [1, l.count]) s) ∧
     (∀ l, level ≤ 7 → s.levels.find level = some l → l.pending = false → ¬ idle →
       exec (.census .supervisor tag level) s =
         replies s .supervisor tag 0x29 .done (joinFields [1, 2] [0, l.count])
           (settle s (s.modLevel level fun l => { l with pending := true }))) ∧
     (∀ l, level ≤ 7 → s.levels.find level = some l → l.pending = false → idle →
       exec (.census .supervisor tag level) s =
         replies s .supervisor tag 0x29 .done (joinFields [1, 2] [2, s.presentCount level])
           (settle s
             (post .censusDone level l.count (s.presentCount level)
               (s.modLevel level fun l => { l with count := s.presentCount level, pending := false, drift := .idle }))))) ∧
  ∀ (s : State), s.control.resetHeld = false →
    (Time.reached s.deckTime s.censusMinute = true →
      exec .censusMinuteTimerExpiry s =
        .next
          (settle s
            { s with
              censusMinute := s.censusMinute + 600#32
              levels := s.levels.mapRecords fun _ l => { l with ring := l.ring.drop 1 ++ [0] } })) ∧
    (∀ e, s.censusStart = some e → Time.reached s.deckTime e = true →
      exec .censusStartTimerExpiry s =
        .next
          (settle s
            (forEach (s.levels.map (·.1)) censusCheck
              { s with censusStart := none, levels := s.levels.mapRecords fun _ l => { l with pending := true } }))) ∧
    (∀ level l started, s.levels.find level = some l → l.drift = .timing started →
      Time.reached s.deckTime (Time.plus started (l.cfg.driftTime * 10)) = true →
      exec (.driftTimerExpiry level) s =
        .next
          (post .censusDrift level l.count (s.presentCount level) (s.modLevel level fun l => { l with drift := .reported })))

/-! ### Rows (chapter 4) -/

/-- SET_LIGHT_LEVELS in either mode writes the clamped values to the row, or to every row in force for 255, and the fade
interval device-wide: the requested level of each row written follows its light timer; in CONFIG mode the edited copies of rows
in force take them too; the values are answered as stored, DONE_CLAMPED where one was clamped. A row 64 to 254 is refused with
BAD_ARGUMENT, one with no record, or 255 with no row in force, with NOT_FOUND (R89; which edited copies: log entry 32). -/
def Obligations.LightLevelsWritten : Prop :=
  ∀ (s : State) (tag row base active hold fade : Nat), Ready s .supervisor = true → s.writing = false →
    let b := if base < 10 then 10 else if 100 < base then 100 else base
    let a := if active < b then b else if 100 < active then 100 else active
    let h := if hold < 30 then 30 else if 1800 < hold then 1800 else hold
    let f := if fade < 1 then 1 else if 50 < fade then 50 else fade
    let written := fun (c : RowCfg) => { c with base := b, active := a, holdTime := h }
    let s1 := { s with
      fade := f
      rows := s.rows.mapRecords fun n r =>
        if row = 255 ∨ row = n then
          { r with cfg := written r.cfg, requested := if r.lightTimer = none then b else a }
        else r }
    let s2 := { s1 with
      control :=
        { s.control with
          working := some { s.workingCopy with
            rows := s.workingCopy.rows.mapRecords fun n c =>
              if (row = 255 ∨ row = n) ∧ (s.rows.find n).isSome = true then written c else c } } }
    let there := if row = 255 then s.rows ≠ [] else (s.rows.find row).isSome = true
    (64 ≤ row → row ≠ 255 →
      exec (.setLightLevels .supervisor tag row base active hold fade) s =
        replies s .supervisor tag 0x2A .badArgument [] s) ∧
    ((row ≤ 63 ∨ row = 255) → ¬ there →
      exec (.setLightLevels .supervisor tag row base active hold fade) s =
        replies s .supervisor tag 0x2A .notFound [] s) ∧
    ((row ≤ 63 ∨ row = 255) → there →
      exec (.setLightLevels .supervisor tag row base active hold fade) s =
        replies s .supervisor tag 0x2A
          (if b = base ∧ a = active ∧ h = hold ∧ f = fade then .done else .doneClamped)
          (joinFields [1, 1, 1, 2, 1] [row, b, a, h, f])
          (if s.inRun then settle s s1 else s2))

/-- The timers of a row. The light timer lets the request fall to the base level. The rise timer of a RISING row raises the
commanded level by up to 5 % toward the grant where the step raises no draw or passes the headroom test, and puts the row on the
held-rise list where it fails. The fade timer of a FADING row lowers it by 1 %; held rises are tried again where the total draw
has fallen (R78, R80, R81, R157). -/
def Obligations.RowTimersStep : Prop :=
  ∀ (s : State) (n : Nat) (r : Row), s.control.resetHeld = false → s.rows.find n = some r →
    (∀ e, r.lightTimer = some e → Time.reached s.deckTime e = true →
      exec (.lightTimerExpiry n) s =
        .next (settle s (s.modRow n fun r => { r with requested := r.cfg.base, lightTimer := none }))) ∧
    (∀ e, r.step = .rising e → Time.reached s.deckTime e = true →
      let up := r.commanded + min 5 (r.granted - r.commanded)
      let draw := s.rowPower r up
      let fits := draw ≤ s.rowPower r r.commanded ∨
        s.totalDraw - s.rowPower r r.commanded + draw ≤ max s.allowance s.supply.floorTotal ∨ draw ≤ s.rowPower r r.cfg.base
      (fits →
        exec (.riseTimerExpiry n) s =
          .next
            (s.modRow n fun r =>
              { r with commanded := up, step := if up < r.granted then .rising (s.deckTime + 1#32) else .still })) ∧
      (¬ fits → exec (.riseTimerExpiry n) s = .next (s.modRow n fun r => { r with step := .riseHeld }))) ∧
    (∀ e, r.step = .fading e → Time.reached s.deckTime e = true →
      let t := s.modRow n fun r =>
        { r with
          commanded := r.commanded - 1
          step := if r.granted < r.commanded - 1 then .fading (Time.plus s.deckTime s.fade) else .still }
      exec (.fadeTimerExpiry n) s =
        .next (if s.inRun = true ∧ t.totalDraw < s.totalDraw then retryHeld t else t))

/-! ### Air quality (chapter 5) -/

/-- VENT_OVERRIDE in RUN mode sets the override of a zone for a duration, replacing one that runs without an event; a duration
of 0 cancels one that runs, with OVERRIDE_ENDED (CANCELLED), and is answered DONE with demand and duration 0 either way. Demand
and duration are clamped, answered as stored; a zone above 11 is refused with BAD_ARGUMENT, one with no record with NOT_FOUND
(R113). The minute timer of the air quality unit pushes the minute values of every zone that is not FAILSAFE, clears every
zone's accumulators and evaluates the zones in rising number, and runs again for 60.0 s from its expiry (R104; the order is the
model's choice, log entry 38, the period DEDUCED, log entry 9). The dwell timer lowers the stage by one and evaluates the zone
again. The override timer ends the override with OVERRIDE_ENDED (EXPIRED) (R108, R114). -/
def Obligations.OverridesAndAirTimers : Prop :=
  (∀ (s : State) (tag zone demand duration : Nat), Ready s .supervisor = true → s.inRun = true →
     let d := if demand < 1 then 1 else if 100 < demand then 100 else demand
     let t := if 14400 < duration then 14400 else duration
     (11 < zone → exec (.ventOverride .supervisor tag zone demand duration) s =
       replies s .supervisor tag 0x23 .badArgument [] s) ∧
     (zone ≤ 11 → s.zones.find zone = none → exec (.ventOverride .supervisor tag zone demand duration) s =
       replies s .supervisor tag 0x23 .notFound [] s) ∧
     (∀ z, zone ≤ 11 → s.zones.find zone = some z → 0 < duration →
       exec (.ventOverride .supervisor tag zone demand duration) s =
         replies s .supervisor tag 0x23 (if d = demand ∧ t = duration then .done else .doneClamped)
           (joinFields [1, 1, 2] [zone, d, t])
           (settle s
             (s.modZone zone fun z =>
               { z with override := some { demand := d, expires := Time.plus s.deckTime (t * 10) } }))) ∧
     (∀ z o, zone ≤ 11 → s.zones.find zone = some z → z.override = some o →
       exec (.ventOverride .supervisor tag zone demand 0) s =
         replies s .supervisor tag 0x23 .done (joinFields [1, 1, 2] [zone, 0, 0])
           (settle s (post .overrideEnded zone 1 o.demand (s.modZone zone fun z => { z with override := none })))) ∧
     (∀ z, zone ≤ 11 → s.zones.find zone = some z → z.override = none →
       exec (.ventOverride .supervisor tag zone demand 0) s =
         replies s .supervisor tag 0x23 .done (joinFields [1, 1, 2] [zone, 0, 0]) (settle s s))) ∧
  ∀ (s : State), s.control.resetHeld = false →
    (Time.reached s.deckTime s.airMinute = true →
      exec .airMinuteTimerExpiry s =
        .next
          (settle s
            (forEach (s.zones.map (·.1)) evaluateZone
              { s with
                airMinute := s.airMinute + 600#32
                zones := s.zones.mapRecords fun _ z =>
                  { z with
                    coSum := 0, no2Sum := 0, samples := 0
                    coRing := if z.failsafe then z.coRing else
                      lastN 15 (z.coRing ++ [if z.samples = 0 then z.coInst else z.coSum / z.samples])
                    no2Ring := if z.failsafe then z.no2Ring else
                      lastN 15 (z.no2Ring ++ [if z.samples = 0 then z.no2Inst else z.no2Sum / z.samples]) } }))) ∧
    (∀ zone z e, s.zones.find zone = some z → z.dwell = some e → Time.reached s.deckTime e = true →
      exec (.dwellTimerExpiry zone) s =
        .next
          (settle s
            (evaluateZone zone (changeStage zone (z.stage - 1) (s.modZone zone fun z => { z with dwell := none }))))) ∧
    (∀ zone z o, s.zones.find zone = some z → z.override = some o → Time.reached s.deckTime o.expires = true →
      exec (.overrideTimerExpiry zone) s =
        .next (settle s (post .overrideEnded zone 0 o.demand (s.modZone zone fun z => { z with override := none }))))

/-- The conversion of a reply's readings: the raw reading above its offset by the gain over 4096, rounded down, clamped to 1000
for CO and 500 for NO2; 0 at or below the offset; the clamp maximum with the SAT flag set, which passes the entry test of stage
4 under every stage table SET_STAGE_TABLE accepts (R97). A reply of a head in force stores its raw readings and flags;
SENSOR_FAULT gives FAULT, else WARMUP gives WARMUP, else the head is VALID with its values converted and stamped, whatever its
health was before; a reply that does not make it VALID leaves its last values. No other head changes, and an address whose head
has no record discards the reply (R98, R95). -/
def Obligations.GasRepliesAreConverted : Prop :=
  (∀ (c : HeadCfg) (r : RawReading) (now : Time),
    let v := c.convert r now
    (r.flags.satCo = false → v.co = min 1000 ((max 0 ((r.co : Int) - c.coOffset)).toNat * c.coGain / 4096)) ∧
    (r.flags.satNo2 = false → v.no2 = min 500 ((max 0 ((r.no2 : Int) - c.no2Offset)).toNat * c.no2Gain / 4096)) ∧
    v.co ≤ 1000 ∧ v.no2 ≤ 500 ∧
    (r.flags.satCo = false → r.co ≤ c.coOffset → v.co = 0) ∧
    (r.flags.satNo2 = false → r.no2 ≤ c.no2Offset → v.no2 = 0) ∧
    (r.flags.satCo = true → v.co = 1000) ∧ (r.flags.satNo2 = true → v.no2 = 500) ∧
    ∀ (stages : List StageRow) (hysteresis dwell : Nat) (z : Zone), stages.length = 4 →
      stageTableFits stages hysteresis dwell = true → (z.coInst = 1000 ∨ z.no2Inst = 500) →
      entryTest { stages := stages, hysteresis := hysteresis, dwell := dwell } z 4 = true) ∧
  ∀ (s : State) (head : Nat) (r : RawReading),
    (∀ h, s.heads.find head = some h →
      (gasReply head r s).heads.find head =
        some
          (if r.flags.sensorFault then { h with raw := some r, health := .fault }
           else if r.flags.warmup then { h with raw := some r, health := .warmup }
           else { h with raw := some r, health := .valid, values := some (h.cfg.convert r s.deckTime) })) ∧
    (∀ n, n ≠ head → (gasReply head r s).heads.find n = s.heads.find n) ∧
    (s.heads.find head = none → gasReply head r s = s)

/-- A zone follows its heads. Its values are the largest of its usable heads, those VALID or STALE; with none it keeps its values
and enters FAILSAFE, its stage as it stands and its dwell cancelled, with ZONE_FAILSAFE; with one again it leaves FAILSAFE, with
ZONE_FAILSAFE (R102, R111, R112). A gas head node entering MISSING makes a VALID head STALE, one entering FAULT any head FAULT,
with HEAD_STATE; nothing follows where the health stands (R99, R100). A gas reply is taken as: head, HEAD_STATE where the health
changes, zone, one sample of the zone's values where the head is VALID, evaluation (R96, R103; the accumulators wrap at 32
bits: DEDUCED, log entry 15). -/
def Obligations.ZonesFollowHeads : Prop :=
  (∀ (s : State) (zone : Nat) (z : Zone), s.zones.find zone = some z →
    let hs := (s.heads.filter fun p =>
      decide (p.2.cfg.zone = zone ∧ (p.2.health = .valid ∨ p.2.health = .stale))).map (·.2)
    let t := refreshZone zone s
    let largest := fun (f : HeadValues → Nat) (v : Nat) =>
      (∀ h ∈ hs, (h.values.map f).getD 0 ≤ v) ∧ ∃ h ∈ hs, (h.values.map f).getD 0 = v
    (hs = [] → z.failsafe = true → t = s) ∧
    (hs = [] → z.failsafe = false →
      t = post .zoneFailsafe zone 1 z.stage (s.modZone zone fun z => { z with failsafe := true, dwell := none })) ∧
    (hs ≠ [] → ∃ co no2, largest (·.co) co ∧ largest (·.no2) no2 ∧
      let u := s.modZone zone fun z => { z with failsafe := false, coInst := co, no2Inst := no2 }
      t = (if z.failsafe then post .zoneFailsafe zone 0 z.stage u else u))) ∧
  (∀ (s : State) (head : Nat) (node : NodeHealth) (h : Head), s.heads.find head = some h →
    let changed := fun (new : HeadHealth) =>
      settle s
        (evaluateZone h.cfg.zone
          (refreshZone h.cfg.zone
            (post .headState head new.code h.health.code (s.modHead head fun h => { h with health := new }))))
    headNodeChange head node s =
      (if node = .fault ∧ h.health ≠ .fault then changed .fault
       else if node = .missing ∧ h.health = .valid then changed .stale else s)) ∧
  (∀ (s : State) (zone : Nat) (z : Zone), s.zones.find zone = some z →
    z.coSum + z.coInst < 2 ^ 32 → z.no2Sum + z.no2Inst < 2 ^ 32 → z.samples + 1 < 2 ^ 32 →
    accumulate zone s =
      s.modZone zone fun z =>
        { z with coSum := z.coSum + z.coInst, no2Sum := z.no2Sum + z.no2Inst, samples := z.samples + 1 }) ∧
  ∀ (s : State) (head : Nat) (r : RawReading) (h : Head), s.heads.find head = some h →
    let new := if r.flags.sensorFault then HeadHealth.fault else if r.flags.warmup then .warmup else .valid
    let u := s.modHead head (Head.replied s.deckTime r)
    let v := refreshZone h.cfg.zone (if h.health = new then u else post .headState head new.code h.health.code u)
    gasReply head r s = settle s (evaluateZone h.cfg.zone (if new = .valid then accumulate h.cfg.zone v else v))

/-- The entry and holding tests: a stage's entry test passes when one of the three quantities stands at or above its entry
threshold, the holding test when one stands at or above floor(E × (100 − H) / 100). Under every table SET_STAGE_TABLE accepts,
a zone that passes the entry test of a stage passes that of every stage below it, and the holding test of the stage itself
(R106). The evaluation of a zone: a FAILSAFE zone keeps its stage; any other rises to the highest stage above its own whose
entry test passes, with the dwell cancelled; where none does, a zone at stage 1 to 4 keeps its stage, and its dwell is cancelled
where the holding test passes, runs on where it runs, and is else started for the dwell time; a zone at stage 0 stays as it is
(R107, and the law of R108). -/
def Obligations.StagesFollowTests : Prop :=
  (∀ (stages : List StageRow) (hysteresis dwell : Nat) (z : Zone), stages.length = 4 →
     stageTableFits stages hysteresis dwell = true →
     let t : StageTable := { stages := stages, hysteresis := hysteresis, dwell := dwell }
     let exit' := fun e => e * (100 - hysteresis) / 100
     (∀ k r, 1 ≤ k → k ≤ 4 → stages[k - 1]? = some r →
       (entryTest t z k = true ↔ r.coMean ≤ z.coMean ∨ r.coInst ≤ z.coInst ∨ r.no2Inst ≤ z.no2Inst) ∧
       (holdingTest t z k = true ↔
         exit' r.coMean ≤ z.coMean ∨ exit' r.coInst ≤ z.coInst ∨ exit' r.no2Inst ≤ z.no2Inst)) ∧
     (∀ j k, 1 ≤ j → j ≤ k → k ≤ 4 → entryTest t z k = true → entryTest t z j = true ∧ holdingTest t z k = true)) ∧
  ∀ (s : State) (zone : Nat) (z : Zone), s.zones.find zone = some z → z.stage ≤ 4 →
    let passes := fun k => 1 ≤ k ∧ k ≤ 4 ∧ entryTest s.stageTable z k = true
    let t := evaluateZone zone s
    (z.failsafe = true → t = s) ∧
    (∀ k, z.failsafe = false → z.stage < k → passes k → (∀ j, k < j → ¬ passes j) →
      t.zones.find zone = some { z with stage := k, dwell := none }) ∧
    (z.failsafe = false → (∀ k, z.stage < k → ¬ passes k) →
      t = s.modZone zone fun z =>
        { z with
          dwell :=
            if z.stage = 0 then z.dwell
            else if holdingTest s.stageTable z z.stage then none
            else if z.dwell = none then some (Time.plus s.deckTime (s.stageTable.dwell * 10)) else z.dwell })

/-! ### Fans (chapter 6) -/

/-- SET_FLOW_PATTERN in RUN mode with no write in flight stores the pattern of the zone and turns every fan in force of the
zone whose direction is not its due direction under it; the response carries the pattern before and how many reversals began. A
zone above 11 or a pattern above 1 is refused with BAD_ARGUMENT, a zone with no record with NOT_FOUND (R136, R134, R125). -/
def Obligations.FlowPatternTurnsFans : Prop :=
  ∀ (s : State) (tag zone pattern : Nat), Ready s .supervisor = true → s.inRun = true → s.writing = false →
    s.fans.rising = true →
    let p := if pattern = 0 then Pattern.a else Pattern.b
    let turn := fun (f : Fan) => if f.cfg.zone = zone then f.turned s.deckTime (f.cfg.dueUnder p) else f
    (∀ z, zone ≤ 11 → pattern ≤ 1 → s.zones.find zone = some z →
      exec (.setFlowPattern .supervisor tag zone pattern) s =
        replies s .supervisor tag 0x24 .done
          (joinFields [1, 1]
            [if z.pattern = .a then 0 else 1, (s.fans.filter fun q => decide (turn q.2 ≠ q.2)).length])
          { s with
            zones := s.zones.modify zone fun z => { z with pattern := p }
            fans := s.fans.mapRecords fun _ f => turn f }) ∧
    ((11 < zone ∨ 1 < pattern) →
      exec (.setFlowPattern .supervisor tag zone pattern) s = replies s .supervisor tag 0x24 .badArgument [] s) ∧
    (zone ≤ 11 → pattern ≤ 1 → s.zones.find zone = none →
      exec (.setFlowPattern .supervisor tag zone pattern) s = replies s .supervisor tag 0x24 .notFound [] s)

/-- The commands that take a fan into and out of service. CLEAR_FAN of a FAULTED fan whose input is released, and RESTORE_FAN of
an ISOLATED one, leave it STOPPED in RUN mode, checked for reversal and granted afresh, or HELD in CONFIG mode; RESTORE_FAN with
the input asserted leaves it FAULTED with FAN_FAULT; ISOLATE_FAN takes any other fan to ISOLATED at speed 0 with a grant of 0.
In any other state the first two are refused with REFUSED_STATE. MANUAL_FAN in CONFIG mode sets the commanded speed of a HELD fan
at once: 0 as it is, any other clamped to the start and the maximum speed of its record, answered as stored, DONE_CLAMPED where
it was clamped; a channel above 23 or a speed above 100 is refused with BAD_ARGUMENT, a channel with no record in force or none
in the working copy with NOT_FOUND, a fan that is not HELD with REFUSED_STATE (R143, R138, R139, R140, R137, R146). Two
readings are the model's: the state answered after a return is the one entered before the reversal check (DEDUCED, log entry
30), and RESTORE_FAN into an asserted input posts FAN_FAULT with ISOLATED, 7, as the state before (DEDUCED, log entry 31). -/
def Obligations.FanServiceCommands : Prop :=
  (∀ (s : State) (tag ch : Nat) (f : Fan), Ready s .supervisor = true → ch ≤ 23 → s.fans.find ch = some f →
    let low := s.pins.fanFault.getLsbD ch = false
    let back := fun (state : FanState) => s.modFan ch fun f => { f with state := state }
    let out := fun (state : FanState) =>
      s.modFan ch fun f => { f with state := state, commanded := 0, granted := 0, rampHeld := false, timer := none }
    let returned := if s.inRun then settle s (beginReversal ch (back .stopped)) else back .held
    (f.state = .faulted → low →
      exec (.clearFan .supervisor tag ch) s =
        replies s .supervisor tag 0x25 .done (leBytes 1 (if s.inRun then 0 else 8)) returned) ∧
    (¬ (f.state = .faulted ∧ low) →
      exec (.clearFan .supervisor tag ch) s =
        replies s .supervisor tag 0x25 .refusedState
          (joinFields [1, 1] [f.state.code, bit (s.pins.fanFault.getLsbD ch)]) s) ∧
    (f.state = .isolated → low →
      exec (.restoreFan .supervisor tag ch) s =
        replies s .supervisor tag 0x27 .done (leBytes 1 (if s.inRun then 0 else 8)) returned) ∧
    (f.state = .isolated → ¬ low →
      exec (.restoreFan .supervisor tag ch) s =
        replies s .supervisor tag 0x27 .done (leBytes 1 6) (post .fanFault ch 7 f.commanded (out .faulted))) ∧
    (f.state ≠ .isolated →
      exec (.restoreFan .supervisor tag ch) s =
        replies s .supervisor tag 0x27 .refusedState (leBytes 1 f.state.code) s) ∧
    (f.state = .isolated →
      exec (.isolateFan .supervisor tag ch) s = replies s .supervisor tag 0x26 .done (leBytes 1 7) s) ∧
    (f.state ≠ .isolated →
      exec (.isolateFan .supervisor tag ch) s =
        replies s .supervisor tag 0x26 .done (leBytes 1 f.state.code) (leaveLoads s (out .isolated)))) ∧
  ∀ (s : State) (tag ch speed : Nat), Ready s .supervisor = true → s.inRun = false →
    (∀ f, ch ≤ 23 → speed ≤ 100 → s.workingCopy.fans.has ch = true → s.fans.find ch = some f → f.state = .held →
      f.cfg.start ≤ f.cfg.maxSpeed →
      let v := if speed = 0 then 0 else if speed < f.cfg.start then f.cfg.start
        else if f.cfg.maxSpeed < speed then f.cfg.maxSpeed else speed
      exec (.manualFan .supervisor tag ch speed) s =
        replies s .supervisor tag 0x28 (if v = speed then .done else .doneClamped) (leBytes 1 v)
          (s.modFan ch fun f => { f with commanded := v })) ∧
    ((23 < ch ∨ 100 < speed) →
      exec (.manualFan .supervisor tag ch speed) s = replies s .supervisor tag 0x28 .badArgument [] s) ∧
    (ch ≤ 23 → speed ≤ 100 → (s.workingCopy.fans.has ch = false ∨ s.fans.find ch = none) →
      exec (.manualFan .supervisor tag ch speed) s = replies s .supervisor tag 0x28 .notFound [] s) ∧
    (∀ f, ch ≤ 23 → speed ≤ 100 → s.workingCopy.fans.has ch = true → s.fans.find ch = some f → f.state ≠ .held →
      exec (.manualFan .supervisor tag ch speed) s =
        replies s .supervisor tag 0x28 .refusedState (leBytes 1 f.state.code) s)

/-- The timers of a fan. The acceleration timer of an ACCELERATING fan raises it by 1 % where the step passes the headroom test,
which every such step is put to, and holds the rise where it fails (one whose rounded power is no greater too: DEDUCED, log
entry 14). The deceleration timer lowers a DECELERATING fan toward its grant, or toward 0 in steps to
its start speed and then to 0 at once; a REVERSING_DOWN fan goes to 0 the same way and then dwells; held rises are tried again
where the total draw has fallen. The end of a reverse dwell gives the fan its due direction, with FAN_REVERSED where that is
another, leaves it STOPPED, and takes the start step where its grant is above 0 (R131, R133, R135, R157). -/
def Obligations.FanTimersStep : Prop :=
  ∀ (s : State) (ch : Nat) (f : Fan) (e : Time), s.control.resetHeld = false → s.fans.find ch = some f →
    f.timer = some e → Time.reached s.deckTime e = true →
    let retried := fun (t : State) => if s.inRun = true ∧ t.totalDraw < s.totalDraw then retryHeld t else t
    let slower := { f with commanded := f.commanded - 1, timer := some (Time.plus s.deckTime f.cfg.decel) }
    (f.state = .accelerating →
      let draw := f.cfg.power (f.commanded + 1)
      let fits := s.totalDraw - f.cfg.power f.commanded + draw ≤ max s.allowance s.supply.floorTotal ∨ draw ≤ f.cfg.power f.floor
      (fits →
        exec (.accelerationTimerExpiry ch) s =
          .next
            (s.modFan ch fun _ =>
              if f.commanded + 1 < f.granted then
                { f with commanded := f.commanded + 1, rampHeld := false, timer := some (Time.plus s.deckTime f.cfg.accel) }
              else { f with commanded := f.commanded + 1, rampHeld := false, state := .steady, timer := none })) ∧
      (¬ fits →
        exec (.accelerationTimerExpiry ch) s =
          .next (s.modFan ch fun _ => { f with rampHeld := true, timer := none }))) ∧
    (f.state = .decelerating →
      exec (.decelerationTimerExpiry ch) s =
        .next
          (retried
            (s.modFan ch fun _ =>
              if f.granted = 0 then
                (if f.cfg.start < f.commanded then slower
                 else { f with commanded := 0, state := .stopped, timer := none })
              else if f.granted < f.commanded - 1 then slower
              else { f with commanded := f.commanded - 1, state := .steady, timer := none }))) ∧
    (f.state = .reversingDown →
      exec (.decelerationTimerExpiry ch) s =
        .next
          (retried
            (s.modFan ch fun _ =>
              if f.cfg.start < f.commanded then slower
              else { f with commanded := 0, state := .reverseDwell,
                            timer := some (Time.plus s.deckTime (f.cfg.dwell * 10)) }))) ∧
    (f.state = .reverseDwell →
      let due := s.dueDirection f
      let stopped := s.modFan ch fun _ => { f with direction := due, state := .stopped, timer := none }
      let told := if due = f.direction then stopped
        else post .fanReversed ch due.code f.direction.code stopped
      exec (.reverseDwellExpiry ch) s = .next (if 0 < f.granted then fanRise ch f.cfg.start told else told))

/-- The fault inputs. The assertion of a fan's input takes it, unless it is FAULTED or ISOLATED, to FAULTED at speed 0 with a
grant of 0 and FAN_FAULT with its state and speed before, out of the loads, with the retry and the computation that calls for;
a FAULTED or ISOLATED fan and a channel with no fan keep the level alone, and so does a release (R137, R146). -/
def Obligations.FaultInputsFaultFans : Prop :=
  ∀ (s : State) (ch : Fin 24), s.control.resetHeld = false →
    (∃ pins, exec (.fanFaultInputReleased ch) s = .next { s with pins := pins } ∧ pins.rampA = s.pins.rampA ∧
      pins.rampB = s.pins.rampB ∧ pins.shed = s.pins.shed ∧
      ∀ k : Fin 24, pins.fanFault.getLsbD k = (if k = ch then false else s.pins.fanFault.getLsbD k)) ∧
    (∃ pins, pins.rampA = s.pins.rampA ∧ pins.rampB = s.pins.rampB ∧ pins.shed = s.pins.shed ∧
      (∀ k : Fin 24, pins.fanFault.getLsbD k = (if k = ch then true else s.pins.fanFault.getLsbD k)) ∧
      let s1 := { s with pins := pins }
      (∀ f, s.fans.find ch = some f → f.state ≠ .faulted → f.state ≠ .isolated →
        exec (.fanFaultInputAsserted ch) s =
          .next
            (leaveLoads s1
              (post .fanFault ch f.state.code f.commanded
                (s1.modFan ch fun f =>
                  { f with state := .faulted, commanded := 0, granted := 0, rampHeld := false, timer := none })))) ∧
      ((s.fans.find ch = none ∨ ∃ f, s.fans.find ch = some f ∧ (f.state = .faulted ∨ f.state = .isolated)) →
        exec (.fanFaultInputAsserted ch) s = .next s1))

/-- The power a fan draws at a speed: its rated power by the cube of the speed over 1,000,000, rounded up; 0 at 0, never less at
a higher speed, so that a class 1 fan draws no more than its floor draw up to its floor (R128, with the figures of its table).
-/
def Obligations.FanPowerFollowsCube : Prop :=
  (∀ c : FanCfg, c.power 0 = 0) ∧
  (∀ (c : FanCfg) (g : Nat), c.rated * g ^ 3 ≤ c.power g * 1000000 ∧ c.power g * 1000000 < c.rated * g ^ 3 + 1000000) ∧
  (∀ (c : FanCfg) (g h : Nat), g ≤ h → c.power g ≤ c.power h) ∧
  (∀ f : Fan, f.draw = f.cfg.power f.commanded ∧ f.floorDraw = f.cfg.power f.floor ∧
    (f.commanded ≤ f.floor → f.draw ≤ f.floorDraw)) ∧
  ∀ c : FanCfg,
    (c.rated = 22000 → c.power 15 = 75 ∧ c.power 25 = 344 ∧ c.power 40 = 1408 ∧ c.power 78 = 10441 ∧ c.power 100 = 22000) ∧
    (c.rated = 15000 → c.power 15 = 51 ∧ c.power 25 = 235 ∧ c.power 40 = 960 ∧ c.power 78 = 7119 ∧ c.power 100 = 15000) ∧
    (c.rated = 8000 → c.power 15 = 27 ∧ c.power 25 = 125 ∧ c.power 40 = 512 ∧ c.power 78 = 3797 ∧ c.power 100 = 8000)

/-! ### The division of the allowance (chapter 7) -/

/-- The division: where the floor total reaches A nothing is left and the scales are 0; otherwise the classes are taken in the
order 1, 2, 3, and each takes the largest scale from 0 to 256 whose extra fits what the classes before it left (R151, R153). -/
def Obligations.DivisionTakesLargestScales : Prop :=
  ∀ s : State, LoadsFit s = true →
    let a := if s.pins.shed then s.supply.shed else s.supply.normal
    let largest := fun (extra : Nat → Nat) (budget k : Nat) =>
      k ≤ 256 ∧ extra k ≤ budget ∧ ∀ j, k < j → j ≤ 256 → budget < extra j
    (a ≤ s.floorSum → divide s = { floorTotal := s.floorSum, budget := 0, scales := none }) ∧
    (s.floorSum < a → ∃ k1 k2 k3,
      largest (fanExtra s 1) (a - s.floorSum) k1 ∧
      largest (rowExtra s) (a - s.floorSum - fanExtra s 1 k1) k2 ∧
      largest (fanExtra s 3) (a - s.floorSum - fanExtra s 1 k1 - rowExtra s k2) k3 ∧
      divide s =
        { floorTotal := s.floorSum
          budget := a - s.floorSum - fanExtra s 1 k1 - rowExtra s k2 - fanExtra s 3 k3
          scales := some (k1, k2, k3) })

/-- After a computation the sum of the granted powers is no more than the larger of the effective allowance and the floor total
(the law of R154). A step that raises the draw of a load above its floor draw leaves the total draw no more than the larger of
the effective allowance and the floor total: for the rise step of a row, and for a start or acceleration step of a fan that is a
load (the law of R155). -/
def Obligations.PowerStaysWithinAllowance : Prop :=
  (∀ (s : State) (all : Bool), LoadsFit s = true →
     (compute all s).grantedSum ≤ max (compute all s).allowance (compute all s).supply.floorTotal) ∧
  ∀ s : State, s.fans.rising = true → s.rows.rising = true →
    (∀ n r r', s.rows.find n = some r → (rowRise n s).rows.find n = some r' →
      s.rowDraw r < s.rowDraw r' → s.rowFloorDraw r < s.rowDraw r' →
      (rowRise n s).totalDraw ≤ max s.allowance s.supply.floorTotal) ∧
    (∀ ch speed f f', s.fans.find ch = some f → f.isLoad = true → (fanRise ch speed s).fans.find ch = some f' →
      f.draw < f'.draw → f.floorDraw < f'.draw →
      (fanRise ch speed s).totalDraw ≤ max s.allowance s.supply.floorTotal)

/-- The tables by which a load acts on a new grant in RUN mode: a row by its step state (R79), a fan by its state (R129); the
grant is stored in every case, and a fan that is reversing, FAULTED, ISOLATED or HELD stores it alone. -/
def Obligations.GrantsMoveStates : Prop :=
  (∀ (now : Time) (fade : Nat) (r : Row) (g : Nat), r.step ≠ .frozen →
    let r' := r.actOnGrant now fade g
    r' = { r with granted := g, step := r'.step } ∧
    (r.commanded = g → r'.step = .still) ∧
    (r.commanded < g → ((∃ e, r.step = .rising e) ∨ r.step = .riseHeld) → r'.step = r.step) ∧
    (r.commanded < g → (r.step = .still ∨ ∃ e, r.step = .fading e) → r'.step = .rising (now + 1#32)) ∧
    (g < r.commanded → (∃ e, r.step = .fading e) → r'.step = r.step) ∧
    (g < r.commanded → (¬ ∃ e, r.step = .fading e) → r'.step = .fading (Time.plus now fade))) ∧
  (∀ (s : State) (ch g : Nat) (f : Fan), s.fans.find ch = some f →
    let stored := s.modFan ch fun _ => { f with granted := g }
    let becomes := fun (state : FanState) (timer : Option Time) =>
      s.modFan ch fun _ => { f with granted := g, state := state, rampHeld := false, timer := timer }
    (f.state = .stopped → 0 < g →
      grantFan ch g s = (if f.rampHeld then stored else fanRise ch f.cfg.start stored)) ∧
    (f.state = .stopped → g = 0 → grantFan ch g s = s.modFan ch fun _ => { f with granted := g, rampHeld := false }) ∧
    (f.state = .accelerating → f.commanded < g → grantFan ch g s = stored) ∧
    (f.state = .steady → f.commanded = g → grantFan ch g s = stored) ∧
    (f.state = .decelerating → g < f.commanded → grantFan ch g s = stored) ∧
    ((f.state = .accelerating ∨ f.state = .decelerating) → f.commanded = g → grantFan ch g s = becomes .steady none) ∧
    ((f.state = .accelerating ∨ f.state = .steady) → g < f.commanded →
      grantFan ch g s = becomes .decelerating (some (Time.plus s.deckTime f.cfg.decel))) ∧
    ((f.state = .steady ∨ f.state = .decelerating) → f.commanded < g →
      grantFan ch g s =
        s.modFan ch fun _ =>
          { f with granted := g, state := .accelerating, timer := some (Time.plus s.deckTime f.cfg.accel) }) ∧
    ((f.state = .reversingDown ∨ f.state = .reverseDwell ∨ f.state = .faulted ∨ f.state = .isolated ∨ f.state = .held) →
      grantFan ch g s = stored))

/-! ### The field loop (chapter 8) -/

/-- The building of a transaction. While RUNNING the entry at the next position begins one, built from the state as it stands;
STOPPED, DRAINING or with an empty list the loop begins none (R162). A bay node with a band change pending is sent SET_BAND with
its band, and else POLL_BAYS; a gas head POLL_GAS; a row node the commanded level, the row's non-staff offered count up to 99
and the arrow of its row, or 100 %, blank and clear without one; a sign node the non-staff offered total of the least level that
names it, up to 999, FULL where it is 0, or blank where none names it (R163, R85, R86, R87). The bytes of each request, and the
length of its reply (section 9.8). -/
def Obligations.TransactionsAreBuilt : Prop :=
  (∀ s : State,
    (∀ before a after, s.loop.state = .running → s.loop.pollList = before ++ a :: after →
      s.loop.next = before.length + 1 →
      startTransaction s =
        { s with
          loop := { s.loop with
            current := some { address := a, request := buildRequest s a, sent := false, received := [] } } }) ∧
    ((s.loop.state ≠ .running ∨ s.loop.pollList = []) → startTransaction s = s)) ∧
  (∀ (s : State) (a : Nat),
    (∀ p, a < 128 → s.pendingBand a = some p → buildRequest s a = .setBand p.band) ∧
    (a < 128 → s.pendingBand a = none → buildRequest s a = .pollBays) ∧
    (128 ≤ a → a < 160 → buildRequest s a = .pollGas) ∧
    (∀ n r, 160 ≤ a → a < 224 → s.rows.find n = some r → r.cfg.node = a → (∀ q ∈ s.rows, q.2.cfg.node = a → q.1 = n) →
      buildRequest s a =
        .rowWrite r.commanded (some (min 99 (s.offeredCount n 0 + s.offeredCount n 1 + s.offeredCount n 2)))
          (s.guidance.holds.any fun h => h.path.contains n)) ∧
    (160 ≤ a → a < 224 → (∀ q ∈ s.rows, q.2.cfg.node ≠ a) → buildRequest s a = .rowWrite 100 none false) ∧
    (∀ n l, 224 ≤ a → s.levels.rising = true → s.levels.find n = some l → (l.cfg.sign1 = some a ∨ l.cfg.sign2 = some a) →
      (∀ q ∈ s.levels, (q.2.cfg.sign1 = some a ∨ q.2.cfg.sign2 = some a) → n ≤ q.1) →
      let total := ((s.rows.filter fun p => decide (p.2.cfg.level = n)).map fun p =>
        s.offeredCount p.1 0 + s.offeredCount p.1 1 + s.offeredCount p.1 2).sum
      buildRequest s a = .signWrite (some (if total = 0 then none else some (min 999 total)))) ∧
    (224 ≤ a → (∀ q ∈ s.levels, q.2.cfg.sign1 ≠ some a ∧ q.2.cfg.sign2 ≠ some a) → buildRequest s a = .signWrite none)) ∧
  ∀ (a : Nat) (level band : Nat) (sign : Option Nat) (arrow : Bool) (figure : Option (Option Nat)),
    let frame := fun (fields widths : List Nat) => withCrc (joinFields (1 :: 1 :: widths) (a :: fields))
    (requestFrame a .pollBays = frame [1] [] ∧ FieldRequest.pollBays.replyLength = 20) ∧
    (requestFrame a (.setBand band) = frame [2, band] [1] ∧ (FieldRequest.setBand band).replyLength = 4) ∧
    (requestFrame a .pollGas = frame [3] [] ∧ FieldRequest.pollGas.replyLength = 8) ∧
    (requestFrame a (.rowWrite level sign arrow) = frame [4, level, sign.getD 0xFF, if arrow then 1 else 0] [1, 1, 1] ∧
      (FieldRequest.rowWrite level sign arrow).replyLength = 3) ∧
    (requestFrame a (.signWrite figure) = frame [5, (figure.map (·.getD 0xFFFE)).getD 0xFFFF] [2] ∧
      (FieldRequest.signWrite figure).replyLength = 3)

/-- The outputs. A fan channel gives commanded speed × 100 Hz, FDIR high for REVERSE and FRUN high above speed 0, and 0 Hz with
both low without a record (R127, R124). FDE is driven while a request is being sent; its characters go out back to back, the
marker bit 1 on the first, the address, and 0 on every later one, each as a start bit at space, eight data bits with the least
significant first, the marker bit and the stop bit at mark, at 57,600 or 230,400 baud by the latched strap (R161). NOTICE is high
while a port holds a record or a response (R177); a transaction takes out the response frame fixed at its start, or the one
zero byte of the empty frame (R174). While RESET_N holds the part the fan pins stand at 0 Hz with FRUN low, FDE is released and
nothing is sent (R193); the other lines are then free values (log entries 20, 22 and 41). -/
def Obligations.OutputsFollowState : Prop :=
  (∀ (s : State) (ch : Nat),
    (s.control.resetHeld = true → (s.fanPins ch).pulseHz = 0 ∧ (s.fanPins ch).run = false) ∧
    (s.control.resetHeld = false →
      (∀ f, s.fans.find ch = some f →
        (s.fanPins ch).pulseHz = f.commanded * 100 ∧ ((s.fanPins ch).dir = true ↔ f.direction = .reverse) ∧
        ((s.fanPins ch).run = true ↔ 0 < f.commanded)) ∧
      (s.fans.find ch = none → s.fanPins ch = { pulseHz := 0, dir := false, run := false }))) ∧
  (∀ s : State,
    (s.control.resetHeld = true → s.fde = false ∧ s.sending = []) ∧
    (∀ r, s.control.resetHeld = false → s.loop.current = some r →
      (r.sent = true → s.fde = false ∧ s.sending = [] ∧ s.transmits = [true]) ∧
      (r.sent = false → s.fde = true ∧ s.transmits = s.sending.flatMap charLevels ∧
        (s.sending.map (·.data)) = requestFrame r.address r.request ∧ (∀ c ∈ s.sending, c.stopOk = true) ∧
        ∃ c rest, s.sending = c :: rest ∧ c.data = BitVec.ofNat 8 r.address ∧ c.marker = true ∧
          ∀ x ∈ rest, x.marker = false)) ∧
    (s.control.resetHeld = false → s.loop.current = none → s.fde = false ∧ s.sending = [] ∧ s.transmits = [true]) ∧
    s.bitRate = (if s.control.strapHigh then 230400 else 57600)) ∧
  (∀ c : FieldChar, (charLevels c).length = 11 ∧ (charLevels c)[0]? = some false ∧
    (∀ k, k < 8 → (charLevels c)[k + 1]? = some (c.data.getLsbD k)) ∧ (charLevels c)[9]? = some c.marker ∧
    (charLevels c)[10]? = some c.stopOk) ∧
  ∀ (s : State) (st : Station), s.control.resetHeld = false →
    (s.notice st = true ↔ (s.port st).events ≠ [] ∨ (s.port st).responses ≠ []) ∧
    (∀ r past, (s.port st).transaction = .active (some r) past →
      s.shiftsOut st =
        withCrc
          (joinFields [1, 1, 1, 1, 1]
            [r.contents.length + 7, r.tag, r.code, r.status.code,
             (if r.flags.commandOverrun then 1 else 0) + (if r.flags.eventsWaiting then 2 else 0) +
              (if r.flags.more then 4 else 0) + (if r.flags.config then 8 else 0) +
              (if r.flags.profileBusy then 16 else 0)] ++ r.contents)) ∧
    (∀ past, (s.port st).transaction = .active none past → s.shiftsOut st = [0x00#8])

/-- What the field loop's steps do to a transaction in flight. With its last request character out, it waits for its reply.
Characters then add to those received, and with the number its kind calls for the transaction ends; it ends too when the reply
timer expires. While RUNNING its end is judged, its node's health recorded, its reply delivered where it is OK, and the next
entry's transaction begins; while DRAINING nothing is judged and the loop stands STOPPED in CONFIG mode or RUNNING again in RUN
mode, as it does at the end of the drain of a soft restart (R161, R162, R164, R166, R170, R171; the next entry stands through a
drain: log entry 23; what becomes of other characters: log entry 28). -/
def Obligations.FieldTransactionsEnd : Prop :=
  ∀ (s : State) (t : Transaction), s.control.resetHeld = false →
    let ended := fun (chars : List FieldChar) =>
      if s.loop.state = .running then
        let s1 := recordOutcome t.address (judge t chars) { s with loop := { s.loop with current := none } }
        let s2 := if judge t chars = .ok then deliverReply t (chars.map (·.data)) s1 else s1
        startTransaction
          { s2 with
            loop :=
              { s2.loop with
                next := if s2.loop.pollList = [] then 0
                  else if s2.loop.next < s2.loop.pollList.length then s2.loop.next + 1 else 1 } }
      else
        startTransaction
          { s with loop := { s.loop with state := if s.inRun then .running else .stopped, current := none } }
    (s.loop.current = some t →
      exec .fieldRequestSent s = .next { s with loop := { s.loop with current := some { t with sent := true } } }) ∧
    (∀ chars, s.loop.current = some t → t.sent = true →
      t.received.length + chars.length < t.request.replyLength →
      exec (.fieldReplyReceived chars) s =
        .next { s with loop := { s.loop with current := some { t with received := t.received ++ chars } } }) ∧
    (∀ chars, s.loop.current = some t → t.sent = true →
      t.received.length + chars.length = t.request.replyLength →
      exec (.fieldReplyReceived chars) s = .next (ended (t.received ++ chars))) ∧
    (∀ c, s.loop.current = some t → t.sent = true → t.received.length + 1 < t.request.replyLength →
      exec (.fieldReplyCharacterReceived c) s =
        .next { s with loop := { s.loop with current := some { t with received := t.received ++ [c] } } }) ∧
    (∀ c, s.loop.current = some t → t.sent = true → t.received.length + 1 = t.request.replyLength →
      exec (.fieldReplyCharacterReceived c) s = .next (ended (t.received ++ [c]))) ∧
    (s.loop.current = some t → t.sent = true → exec .replyTimerExpiry s = .next (ended t.received)) ∧
    (s.loop.current = none → s.loop.state = .draining →
      exec .drainEnd s =
        .next
          (startTransaction { s with loop := { s.loop with state := if s.inRun then .running else .stopped } }))

/-- The outcome of an ended transaction, by the tests in their order: too few characters NO_REPLY; a stop bit at space, a first
character without its marker or a later one with it FRAME_ERROR; a bad CRC CRC_ERROR; another address WRONG_ADDRESS; otherwise
OK; with their codes. A gas reading above 4095 is taken as a SENSOR_FAULT (R165), its flag
set among those stored (DEDUCED, log entry 45). The health record of a node after an outcome: OK sets the failures
to 0 and the health to OK with its time; any other adds a failure, up to 65535, MISSING at 1 and 2, FAULT from 3. NODE_STATE is
posted where FAULT is entered, with the outcome, and where it is left, with the failures ended, and nowhere else; no other
address's record changes (R167, R168). -/
def Obligations.OutcomesGiveHealth : Prop :=
  (∀ (t : Transaction) (chars : List FieldChar),
    let short := chars.length < t.request.replyLength
    let framed := (∀ c ∈ chars, c.stopOk = true) ∧ (∀ c, chars.head? = some c → c.marker = true) ∧
      ∀ c ∈ chars.tail, c.marker = false
    let checked' := crcGood (chars.map (·.data)) = true
    let addressed := ∃ c rest, chars = c :: rest ∧ c.data.toNat = t.address
    (judge t chars = .noReply ↔ short) ∧
    (judge t chars = .frameError ↔ ¬ short ∧ ¬ framed) ∧
    (judge t chars = .crcError ↔ ¬ short ∧ framed ∧ ¬ checked') ∧
    (judge t chars = .wrongAddress ↔ ¬ short ∧ framed ∧ checked' ∧ ¬ addressed) ∧
    (judge t chars = .ok ↔ ¬ short ∧ framed ∧ checked' ∧ addressed)) ∧
  (FieldOutcome.ok.code = 0 ∧ FieldOutcome.crcError.code = 1 ∧ FieldOutcome.frameError.code = 2 ∧
    FieldOutcome.wrongAddress.code = 3 ∧ FieldOutcome.noReply.code = 4) ∧
  (∀ bytes : List Byte, (4095 < leNat ((bytes.drop 1).take 2) ∨ 4095 < leNat ((bytes.drop 3).take 2)) →
    (gasReading bytes).flags.sensorFault = true) ∧
  ∀ (s : State) (address : Nat) (outcome : FieldOutcome),
    let r := s.nodeRecord address
    let r' := r.after s.deckTime outcome
    (outcome = .ok → r' = { health := .ok, failures := 0, lastOutcome := some .ok, lastOk := some s.deckTime }) ∧
    (outcome ≠ .ok → r.failures < 65535 →
      r'.failures = r.failures + 1 ∧ r'.lastOutcome = some outcome ∧ r'.lastOk = r.lastOk ∧
      (r'.health = .fault ↔ 3 ≤ r'.failures) ∧ (r'.health = .missing ↔ r'.failures ≤ 2)) ∧
    (outcome ≠ .ok → 65535 ≤ r.failures →
      r'.failures = 65535 ∧ r'.lastOutcome = some outcome ∧ r'.lastOk = r.lastOk ∧ r'.health = .fault) ∧
    (s.loop.health.rising = true →
      (recordOutcome address outcome s).nodeRecord address = r' ∧
      ∀ a, a ≠ address → (recordOutcome address outcome s).nodeRecord a = s.nodeRecord a) ∧
    ∀ before,
      (r.health ≠ .fault → r'.health = .fault →
        postNodeState address r r' outcome before = post .nodeState address 1 outcome.code before) ∧
      (r.health = .fault → r'.health ≠ .fault →
        postNodeState address r r' outcome before = post .nodeState address 0 r.failures before) ∧
      (r.health = r'.health ∨ (r.health ≠ .fault ∧ r'.health ≠ .fault) →
        postNodeState address r r' outcome before = before)

/-! ### Samples of a bay (chapter 1) -/

/-- A valid sample of a bay that is not learning, by its deviation from the baseline before it: the on run, the off run and the
sensed state it leaves, cell by cell of the table of R7; and a valid count of a bay with no reference for its node's band is
taken as an invalid mark (R7 to R10, R4). A sample that leaves the sensed state, in a window that is not noisy, changes the
bay alone; one that changes it is a change taken whole. The baseline of a bay that is VACANT before and after a sample moves toward the
sample's count when it lies inside half the on threshold: by 1 for a difference of 1 to 15, by floor(difference / 16) for any
other; it never passes the count; outside that window, and in any other bay, it stands (R11). -/
def Obligations.SamplesAreClassified : Prop :=
  (∀ (jitter c : Nat) (b : Bay),
    let d : Int := (c : Int) - (b.baseline : Int)
    let on : Int := b.cfg.onThr
    let off : Int := b.cfg.offThr
    let b' := b.sampled jitter c
    let next := b.sampleState c
    let leaves := fun (onRun offRun : Nat) (sensed : Sensed) => b'.onRun = onRun ∧ b'.offRun = offRun ∧ next = sensed
    b.cfg.offThr < b.cfg.onThr → b.onRun ≤ 2 → b.offRun ≤ 4 →
    (b.sensed = .vacant → on ≤ d → if b.onRun = 2 then leaves 0 0 .present else leaves (b.onRun + 1) 0 .vacant) ∧
    (b.sensed = .vacant → d < on → leaves 0 0 .vacant) ∧
    (b.sensed = .unknown → on ≤ d → if b.onRun = 2 then leaves 0 0 .present else leaves (b.onRun + 1) 0 .unknown) ∧
    (b.sensed = .unknown → off ≤ d → d < on → leaves 0 0 .unknown) ∧
    (b.sensed = .unknown → d < off → if b.offRun = 4 then leaves 0 0 .vacant else leaves 0 (b.offRun + 1) .unknown) ∧
    (b.sensed = .present → off ≤ d → leaves 0 0 .present) ∧
    (b.sensed = .present → d < off → if b.offRun = 4 then leaves 0 0 .vacant else leaves 0 (b.offRun + 1) .present) ∧
    b'.baseline = (if b.sensed = .vacant ∧ next = .vacant then trackBaseline b.baseline c b.cfg.onThr else b.baseline)) ∧
  (∀ (s : State) (n c : Nat) (b : Bay), s.bays.find n = some b → b.cfg.reference (s.bandRecord b.cfg.node).band = none →
    baySample n (some c) s = baySample n none s) ∧
  (∀ (s : State) (n c ref : Nat) (b : Bay), s.bays.find n = some b → b.learning = false →
    b.cfg.reference (s.bandRecord b.cfg.node).band = some ref →
    let b' := b.sampled s.jitter c
    (b.sampleState c ≠ b.sensed →
      baySample n (some c) s = senseChange n (b.sampleState c) 0 (s.modBay n fun _ => b')) ∧
    (b.sampleState c = b.sensed → (b.sensed ≠ .vacant ∨ (b'.window.filter id).length < 4) →
      baySample n (some c) s = s.modBay n fun _ => b')) ∧
  ∀ (baseline c onThr : Nat), baseline ≤ 65535 → c ≤ 65535 →
    let d : Int := (c : Int) - (baseline : Int)
    let b' : Int := (trackBaseline baseline c onThr : Int)
    (onThr / 2 ≤ d.natAbs → b' = baseline) ∧
    (d.natAbs < onThr / 2 →
      (d = 0 → b' = baseline) ∧ (1 ≤ d → d ≤ 15 → b' = baseline + 1) ∧
      ((d < 0 ∨ 16 ≤ d) → 16 * (b' - baseline) ≤ d ∧ d < 16 * (b' - baseline) + 16) ∧
      (b' - c).natAbs ≤ d.natAbs ∧ 0 ≤ b' ∧ b' ≤ 65535)

/-- The other samples of a bay, and the FAULT of its node. An invalid mark adds 1 to the invalid run, up to 3, and leaves the rest;
at 3 a bay that is not UNKNOWN becomes so, its runs cleared and its window emptied, a learning bay keeping its learning (R3). A
valid count of a learning bay is summed; the fourth gives the mean, which at the reference plus the on threshold or above makes
the reference the baseline and the bay PRESENT, and below it makes the mean the baseline and the bay VACANT; learning ends, the
runs and the window cleared (R6). A node entering MISSING changes no bay; one entering FAULT leaves each of its bays UNKNOWN, its
runs, window, progress and sum cleared, with a change of cause 1 where it was not, and no other bay changed (R16; the bays are
taken in rising number, the model's choice: log entry 38). A number with no record takes no sample (R1). -/
def Obligations.BaysLearnAndFail : Prop :=
  (∀ (s : State) (n : Nat), s.bays.find n = none → ∀ entry, baySample n entry s = s) ∧
  (∀ (s : State) (n : Nat) (b : Bay), s.bays.find n = some b →
    let run := min 3 (b.invalidRun + 1)
    (run = 3 → b.sensed ≠ .unknown →
      baySample n none s =
        senseChange n .unknown 0
          (s.modBay n fun _ => { b with invalidRun := 3, onRun := 0, offRun := 0, window := [] })) ∧
    ((run < 3 ∨ b.sensed = .unknown) → baySample n none s = s.modBay n fun _ => { b with invalidRun := run }) ∧
    ∀ c ref, b.learning = true → b.cfg.reference (s.bandRecord b.cfg.node).band = some ref →
      (b.learnProgress + 1 < 4 →
        baySample n (some c) s =
          s.modBay n fun _ =>
            { b with learnProgress := b.learnProgress + 1, learnSum := b.learnSum + c, lastCount := some c,
                     invalidRun := 0 }) ∧
      (4 ≤ b.learnProgress + 1 →
        let mean := (b.learnSum + c) / 4
        let high := ref + b.cfg.onThr ≤ mean
        let new := if high then Sensed.present else .vacant
        let u := s.modBay n fun _ =>
          { b with baseline := (if high then ref else mean), learning := false, learnProgress := 0, learnSum := 0, onRun := 0,
                   offRun := 0, window := [], lastCount := some c, invalidRun := 0 }
        baySample n (some c) s = (if b.sensed = new then u else senseChange n new 0 u))) ∧
  (∀ (address : Nat) (old new : NodeHealth) (before s : State), address < 128 →
    (new ≠ .fault → handHealth address old new before s = s) ∧
    (new = .fault → old ≠ .fault → handHealth address old new before s = nodeFaultBays address s)) ∧
  (∀ (s : State) (n : Nat) (b : Bay), s.bays.find n = some b →
    let u := s.modBay n fun _ =>
      { b with onRun := 0, offRun := 0, invalidRun := 0, window := [], learnProgress := 0, learnSum := 0 }
    bayNodeFault n s = (if b.sensed = .unknown then u else senseChange n .unknown 1 u)) ∧
  ∀ (s : State) (node : Nat), s.bays.rising = true →
    let t := nodeFaultBays node s
    t = forEach ((s.bays.filter fun p => decide (p.2.cfg.node = node)).map (·.1)) bayNodeFault s ∧
    ∀ n, t.bays.find n = (s.bays.find n).map fun b =>
      if b.cfg.node = node then
        { b with
          sensed := .unknown
          changedAt := if b.sensed = .unknown then b.changedAt else some s.deckTime
          onRun := 0, offRun := 0, invalidRun := 0, window := [], learnProgress := 0, learnSum := 0 }
      else b

/-- A change of sensed state, taken whole: the bay stamped, its events in the order of their table, the level's offered total
compared, the row triggered, a movement between VACANT and PRESENT and the census of S, and the allocation unit's part: a HELD
bay that becomes PRESENT meets its hold; an OPEN one going from VACANT to PRESENT meets by substitution, where that is on, the
hold of its row with a VACANT bay that was issued first; an OPEN bay becoming VACANT calls for a pass (R17, R18, R21, R35, R36,
R54, R61, R62, R64; the order of these parts is DEDUCED, log entry 12, the computation at their end log entry 11). -/
def Obligations.SensedChangesAreWhole : Prop :=
  (∀ (s : State) (n : Nat) (b : Bay) (new : Sensed) (cause : Nat), s.bays.find n = some b → b.sensed ≠ new →
    let old := b.sensed
    let row := b.cfg.row
    let level := s.rowLevel row
    let stamped := s.modBay n fun _ => { b with sensed := new, changedAt := some s.deckTime }
    let told :=
      if new = .present then
        let arrived := post .bayArrival n row level stamped
        if b.admin = .closed then post .parkedInClosed n row level arrived else arrived
      else if new = .unknown then post .bayUnknown n cause b.cfg.node stamped
      else if old = .present then post .bayDeparture n row level stamped
      else stamped
    let was := s.levelOffered level
    let total := stamped.levelOffered level
    let compared :=
      if 0 < was ∧ total = 0 then post .levelFull level (stamped.levelFree level) 0 told
      else if was = 0 ∧ 0 < total then post .levelOpen level total 0 told else told
    let lit := compared.modRow row fun r =>
      { r with requested := r.cfg.active, lightTimer := some (Time.plus s.deckTime (r.cfg.holdTime * 10)) }
    let moved := if old ≠ .unknown ∧ new ≠ .unknown
      then lit.modLevel level fun l => { l with ring := addMovement l.ring } else lit
    let counted := if old = .present ∨ new = .present then censusCheck level (updateDrift level moved) else moved
    let ended := fun (h : Hold) =>
      allocationPass
        (postTo h.station .holdMet h.ticket n h.bay
          (setAdmin h.bay .opened
            { counted with
              guidance := { counted.guidance with
                holds := counted.guidance.holds.filter fun x => decide (x.ticket ≠ h.ticket) } }))
    let is := fun (u : State) => senseChange n new cause s = settle s u
    (new = .unknown → is counted) ∧
    (new = .vacant → is (if b.admin = .opened then allocationPass counted else counted)) ∧
    (new = .present → (b.admin = .closed ∨ ∃ st, b.admin = .claimed st) → is counted) ∧
    (∀ t h, new = .present → b.admin = .held t → findHold s.guidance.holds t = some h → h.bay = n → is (ended h)) ∧
    (new = .present → b.admin = .opened → (old = .unknown ∨ s.guidance.substitution = false) → is counted) ∧
    (new = .present → b.admin = .opened → old = .vacant → s.guidance.substitution = true →
      let meets := fun (h : Hold) => h ∈ s.guidance.holds ∧
        ∃ x, stamped.bays.find h.bay = some x ∧ x.cfg.row = row ∧ x.sensed = .vacant
      ((∀ h, ¬ meets h) → is counted) ∧
      (∀ h, meets h →
        (∀ x, meets x → x ≠ h → Time.since s.deckTime x.issued < Time.since s.deckTime h.issued ∨
          (Time.since s.deckTime x.issued = Time.since s.deckTime h.issued ∧ h.ticket < x.ticket)) →
        is (ended h)))) ∧
  ∀ (s : State) (n : Nat) (b : Bay) (new : Sensed) (cause : Nat), s.bays.find n = some b → b.sensed ≠ new →
    let t := senseChange n new cause s
    (∃ admin, t.bays.find n = some { b with sensed := new, changedAt := some s.deckTime, admin := admin }) ∧
    (∀ m x, m ≠ n → s.bays.find m = some x → ∃ admin, t.bays.find m = some { x with admin := admin }) ∧
    ∀ r, s.rows.find b.cfg.row = some r → ∃ r', t.rows.find b.cfg.row = some r' ∧ r'.cfg = r.cfg ∧
      r'.requested = r.cfg.active ∧ r'.lightTimer = some (Time.plus s.deckTime (r.cfg.holdTime * 10))

/-- A band change asked for by a bay of a node: with three counted changes less than 600.0 s old it is not made, NODE_NOISY
(limit); otherwise the first of the three bands after the current one for which every bay of the node has a reference becomes
pending as a counted change; with none, NODE_NOISY (no band). The noise windows of the node's bays are emptied either way, and
nothing else changes (R13). A SET_BAND answered with the band sent is acknowledged, its pending change gone; answered with
another band it stays pending (R166). The acknowledgement of a counted change sets the band, adds the present deck time to the
counted changes, of which the last three are kept, and posts BAND_CHANGED; that of a reset sets band 0 and does neither. Either
way every bay of the node enters learning with its sensed state and baseline kept, and no other record changes (R14, R15, R5).
-/
def Obligations.BandChangesAreSettled : Prop :=
  (∀ (s : State) (node : Nat),
     let r := s.bandRecord node
     let limited := 3 ≤ (r.changes.filter fun t => decide (Time.since s.deckTime t < 6000)).length
     let covered := fun (k : Nat) => ∀ p ∈ s.bays, p.2.cfg.node = node → (p.2.cfg.reference k).isSome = true
     let emptied := fun (t : State) =>
       { t with bays := s.bays.mapRecords fun _ b => if b.cfg.node = node then { b with window := [] } else b }
     let pend := fun (k : Nat) =>
       emptied { s with loop := { s.loop with pendingBands := s.loop.pendingBands.put node { counted := true, band := k } } }
     let b1 := (r.band + 1) % 4
     let b2 := (r.band + 2) % 4
     let b3 := (r.band + 3) % 4
     (limited → requestBandChange node s = emptied (post .nodeNoisy node r.band 1 s)) ∧
     (¬ limited → covered b1 → requestBandChange node s = pend b1) ∧
     (¬ limited → ¬ covered b1 → covered b2 → requestBandChange node s = pend b2) ∧
     (¬ limited → ¬ covered b1 → ¬ covered b2 → covered b3 → requestBandChange node s = pend b3) ∧
     (¬ limited → ¬ covered b1 → ¬ covered b2 → ¬ covered b3 →
       requestBandChange node s = emptied (post .nodeNoisy node r.band 0 s))) ∧
  (∀ (s : State) (node sent : Nat) (bytes : List Byte) (p : PendingBand), s.pendingBand node = some p →
    ((bytes.getD 1 0#8).toNat = sent →
      bandReply node sent bytes s =
        acknowledgeBand node p
          { s with loop := { s.loop with pendingBands := s.loop.pendingBands.erase node } }) ∧
    ((bytes.getD 1 0#8).toNat ≠ sent → bandReply node sent bytes s = s)) ∧
  ∀ (s : State) (node : Nat) (p : PendingBand), s.bands.rising = true →
    let r := s.bandRecord node
    let t := acknowledgeBand node p s
    let u := { s with
      bands := t.bands
      bays := s.bays.mapRecords fun _ b =>
        if b.cfg.node = node then
          { b with learning := true, learnProgress := 0, learnSum := 0, onRun := 0, offRun := 0, invalidRun := 0,
                   window := [] }
        else b }
    t.bandRecord node =
      (if p.counted then
        { band := p.band, changes := (r.changes ++ [s.deckTime]).drop (r.changes.length + 1 - 3) }
       else { r with band := 0 }) ∧
    (∀ a, a ≠ node → t.bandRecord a = s.bandRecord a) ∧
    t = (if p.counted then post .bandChanged node p.band r.band u else u)
end

