-- ==== Sys2Proof/Laws/State.lean ====
section
/-! SUPPORT. One lemma per field per named update of the state: what each update leaves as it was, and what it writes. -/

namespace Sys2Proof.Machine

@[simp] theorem State.setPort_pending (s : State) (st : Station) (p : Port) : (s.setPort st p).pending = s.pending := by cases st <;> rfl
@[simp] theorem State.setPort_deckTime (s : State) (st : Station) (p : Port) : (s.setPort st p).deckTime = s.deckTime := by cases st <;> rfl
@[simp] theorem State.setPort_control (s : State) (st : Station) (p : Port) : (s.setPort st p).control = s.control := by cases st <;> rfl
@[simp] theorem State.setPort_pins (s : State) (st : Station) (p : Port) : (s.setPort st p).pins = s.pins := by cases st <;> rfl
@[simp] theorem State.setPort_bays (s : State) (st : Station) (p : Port) : (s.setPort st p).bays = s.bays := by cases st <;> rfl
@[simp] theorem State.setPort_bands (s : State) (st : Station) (p : Port) : (s.setPort st p).bands = s.bands := by cases st <;> rfl
@[simp] theorem State.setPort_jitter (s : State) (st : Station) (p : Port) : (s.setPort st p).jitter = s.jitter := by cases st <;> rfl
@[simp] theorem State.setPort_pairs (s : State) (st : Station) (p : Port) : (s.setPort st p).pairs = s.pairs := by cases st <;> rfl
@[simp] theorem State.setPort_levels (s : State) (st : Station) (p : Port) : (s.setPort st p).levels = s.levels := by cases st <;> rfl
@[simp] theorem State.setPort_censusMinute (s : State) (st : Station) (p : Port) : (s.setPort st p).censusMinute = s.censusMinute := by cases st <;> rfl
@[simp] theorem State.setPort_censusStart (s : State) (st : Station) (p : Port) : (s.setPort st p).censusStart = s.censusStart := by cases st <;> rfl
@[simp] theorem State.setPort_rows (s : State) (st : Station) (p : Port) : (s.setPort st p).rows = s.rows := by cases st <;> rfl
@[simp] theorem State.setPort_fade (s : State) (st : Station) (p : Port) : (s.setPort st p).fade = s.fade := by cases st <;> rfl
@[simp] theorem State.setPort_heads (s : State) (st : Station) (p : Port) : (s.setPort st p).heads = s.heads := by cases st <;> rfl
@[simp] theorem State.setPort_zones (s : State) (st : Station) (p : Port) : (s.setPort st p).zones = s.zones := by cases st <;> rfl
@[simp] theorem State.setPort_stageTable (s : State) (st : Station) (p : Port) : (s.setPort st p).stageTable = s.stageTable := by cases st <;> rfl
@[simp] theorem State.setPort_airMinute (s : State) (st : Station) (p : Port) : (s.setPort st p).airMinute = s.airMinute := by cases st <;> rfl
@[simp] theorem State.setPort_fans (s : State) (st : Station) (p : Port) : (s.setPort st p).fans = s.fans := by cases st <;> rfl
@[simp] theorem State.setPort_guidance (s : State) (st : Station) (p : Port) : (s.setPort st p).guidance = s.guidance := by cases st <;> rfl
@[simp] theorem State.setPort_supply (s : State) (st : Station) (p : Port) : (s.setPort st p).supply = s.supply := by cases st <;> rfl
@[simp] theorem State.setPort_loop (s : State) (st : Station) (p : Port) : (s.setPort st p).loop = s.loop := by cases st <;> rfl

@[simp] theorem State.modBay_pending (s : State) (n : Nat) (f : Bay → Bay) : (s.modBay n f).pending = s.pending := rfl
@[simp] theorem State.modBay_deckTime (s : State) (n : Nat) (f : Bay → Bay) : (s.modBay n f).deckTime = s.deckTime := rfl
@[simp] theorem State.modBay_control (s : State) (n : Nat) (f : Bay → Bay) : (s.modBay n f).control = s.control := rfl
@[simp] theorem State.modBay_pins (s : State) (n : Nat) (f : Bay → Bay) : (s.modBay n f).pins = s.pins := rfl
@[simp] theorem State.modBay_ports (s : State) (n : Nat) (f : Bay → Bay) : (s.modBay n f).ports = s.ports := rfl
@[simp] theorem State.modBay_bands (s : State) (n : Nat) (f : Bay → Bay) : (s.modBay n f).bands = s.bands := rfl
@[simp] theorem State.modBay_jitter (s : State) (n : Nat) (f : Bay → Bay) : (s.modBay n f).jitter = s.jitter := rfl
@[simp] theorem State.modBay_pairs (s : State) (n : Nat) (f : Bay → Bay) : (s.modBay n f).pairs = s.pairs := rfl
@[simp] theorem State.modBay_levels (s : State) (n : Nat) (f : Bay → Bay) : (s.modBay n f).levels = s.levels := rfl
@[simp] theorem State.modBay_censusMinute (s : State) (n : Nat) (f : Bay → Bay) : (s.modBay n f).censusMinute = s.censusMinute := rfl
@[simp] theorem State.modBay_censusStart (s : State) (n : Nat) (f : Bay → Bay) : (s.modBay n f).censusStart = s.censusStart := rfl
@[simp] theorem State.modBay_rows (s : State) (n : Nat) (f : Bay → Bay) : (s.modBay n f).rows = s.rows := rfl
@[simp] theorem State.modBay_fade (s : State) (n : Nat) (f : Bay → Bay) : (s.modBay n f).fade = s.fade := rfl
@[simp] theorem State.modBay_heads (s : State) (n : Nat) (f : Bay → Bay) : (s.modBay n f).heads = s.heads := rfl
@[simp] theorem State.modBay_zones (s : State) (n : Nat) (f : Bay → Bay) : (s.modBay n f).zones = s.zones := rfl
@[simp] theorem State.modBay_stageTable (s : State) (n : Nat) (f : Bay → Bay) : (s.modBay n f).stageTable = s.stageTable := rfl
@[simp] theorem State.modBay_airMinute (s : State) (n : Nat) (f : Bay → Bay) : (s.modBay n f).airMinute = s.airMinute := rfl
@[simp] theorem State.modBay_fans (s : State) (n : Nat) (f : Bay → Bay) : (s.modBay n f).fans = s.fans := rfl
@[simp] theorem State.modBay_guidance (s : State) (n : Nat) (f : Bay → Bay) : (s.modBay n f).guidance = s.guidance := rfl
@[simp] theorem State.modBay_supply (s : State) (n : Nat) (f : Bay → Bay) : (s.modBay n f).supply = s.supply := rfl
@[simp] theorem State.modBay_loop (s : State) (n : Nat) (f : Bay → Bay) : (s.modBay n f).loop = s.loop := rfl
@[simp] theorem State.modBay_bays (s : State) (n : Nat) (f : Bay → Bay) : (s.modBay n f).bays = s.bays.modify n f := rfl

@[simp] theorem State.modPair_pending (s : State) (n : Nat) (f : RampPair → RampPair) : (s.modPair n f).pending = s.pending := rfl
@[simp] theorem State.modPair_deckTime (s : State) (n : Nat) (f : RampPair → RampPair) : (s.modPair n f).deckTime = s.deckTime := rfl
@[simp] theorem State.modPair_control (s : State) (n : Nat) (f : RampPair → RampPair) : (s.modPair n f).control = s.control := rfl
@[simp] theorem State.modPair_pins (s : State) (n : Nat) (f : RampPair → RampPair) : (s.modPair n f).pins = s.pins := rfl
@[simp] theorem State.modPair_ports (s : State) (n : Nat) (f : RampPair → RampPair) : (s.modPair n f).ports = s.ports := rfl
@[simp] theorem State.modPair_bays (s : State) (n : Nat) (f : RampPair → RampPair) : (s.modPair n f).bays = s.bays := rfl
@[simp] theorem State.modPair_bands (s : State) (n : Nat) (f : RampPair → RampPair) : (s.modPair n f).bands = s.bands := rfl
@[simp] theorem State.modPair_jitter (s : State) (n : Nat) (f : RampPair → RampPair) : (s.modPair n f).jitter = s.jitter := rfl
@[simp] theorem State.modPair_levels (s : State) (n : Nat) (f : RampPair → RampPair) : (s.modPair n f).levels = s.levels := rfl
@[simp] theorem State.modPair_censusMinute (s : State) (n : Nat) (f : RampPair → RampPair) : (s.modPair n f).censusMinute = s.censusMinute := rfl
@[simp] theorem State.modPair_censusStart (s : State) (n : Nat) (f : RampPair → RampPair) : (s.modPair n f).censusStart = s.censusStart := rfl
@[simp] theorem State.modPair_rows (s : State) (n : Nat) (f : RampPair → RampPair) : (s.modPair n f).rows = s.rows := rfl
@[simp] theorem State.modPair_fade (s : State) (n : Nat) (f : RampPair → RampPair) : (s.modPair n f).fade = s.fade := rfl
@[simp] theorem State.modPair_heads (s : State) (n : Nat) (f : RampPair → RampPair) : (s.modPair n f).heads = s.heads := rfl
@[simp] theorem State.modPair_zones (s : State) (n : Nat) (f : RampPair → RampPair) : (s.modPair n f).zones = s.zones := rfl
@[simp] theorem State.modPair_stageTable (s : State) (n : Nat) (f : RampPair → RampPair) : (s.modPair n f).stageTable = s.stageTable := rfl
@[simp] theorem State.modPair_airMinute (s : State) (n : Nat) (f : RampPair → RampPair) : (s.modPair n f).airMinute = s.airMinute := rfl
@[simp] theorem State.modPair_fans (s : State) (n : Nat) (f : RampPair → RampPair) : (s.modPair n f).fans = s.fans := rfl
@[simp] theorem State.modPair_guidance (s : State) (n : Nat) (f : RampPair → RampPair) : (s.modPair n f).guidance = s.guidance := rfl
@[simp] theorem State.modPair_supply (s : State) (n : Nat) (f : RampPair → RampPair) : (s.modPair n f).supply = s.supply := rfl
@[simp] theorem State.modPair_loop (s : State) (n : Nat) (f : RampPair → RampPair) : (s.modPair n f).loop = s.loop := rfl
@[simp] theorem State.modPair_pairs (s : State) (n : Nat) (f : RampPair → RampPair) : (s.modPair n f).pairs = s.pairs.modify n f := rfl

@[simp] theorem State.modLevel_pending (s : State) (n : Nat) (f : Level → Level) : (s.modLevel n f).pending = s.pending := rfl
@[simp] theorem State.modLevel_deckTime (s : State) (n : Nat) (f : Level → Level) : (s.modLevel n f).deckTime = s.deckTime := rfl
@[simp] theorem State.modLevel_control (s : State) (n : Nat) (f : Level → Level) : (s.modLevel n f).control = s.control := rfl
@[simp] theorem State.modLevel_pins (s : State) (n : Nat) (f : Level → Level) : (s.modLevel n f).pins = s.pins := rfl
@[simp] theorem State.modLevel_ports (s : State) (n : Nat) (f : Level → Level) : (s.modLevel n f).ports = s.ports := rfl
@[simp] theorem State.modLevel_bays (s : State) (n : Nat) (f : Level → Level) : (s.modLevel n f).bays = s.bays := rfl
@[simp] theorem State.modLevel_bands (s : State) (n : Nat) (f : Level → Level) : (s.modLevel n f).bands = s.bands := rfl
@[simp] theorem State.modLevel_jitter (s : State) (n : Nat) (f : Level → Level) : (s.modLevel n f).jitter = s.jitter := rfl
@[simp] theorem State.modLevel_pairs (s : State) (n : Nat) (f : Level → Level) : (s.modLevel n f).pairs = s.pairs := rfl
@[simp] theorem State.modLevel_censusMinute (s : State) (n : Nat) (f : Level → Level) : (s.modLevel n f).censusMinute = s.censusMinute := rfl
@[simp] theorem State.modLevel_censusStart (s : State) (n : Nat) (f : Level → Level) : (s.modLevel n f).censusStart = s.censusStart := rfl
@[simp] theorem State.modLevel_rows (s : State) (n : Nat) (f : Level → Level) : (s.modLevel n f).rows = s.rows := rfl
@[simp] theorem State.modLevel_fade (s : State) (n : Nat) (f : Level → Level) : (s.modLevel n f).fade = s.fade := rfl
@[simp] theorem State.modLevel_heads (s : State) (n : Nat) (f : Level → Level) : (s.modLevel n f).heads = s.heads := rfl
@[simp] theorem State.modLevel_zones (s : State) (n : Nat) (f : Level → Level) : (s.modLevel n f).zones = s.zones := rfl
@[simp] theorem State.modLevel_stageTable (s : State) (n : Nat) (f : Level → Level) : (s.modLevel n f).stageTable = s.stageTable := rfl
@[simp] theorem State.modLevel_airMinute (s : State) (n : Nat) (f : Level → Level) : (s.modLevel n f).airMinute = s.airMinute := rfl
@[simp] theorem State.modLevel_fans (s : State) (n : Nat) (f : Level → Level) : (s.modLevel n f).fans = s.fans := rfl
@[simp] theorem State.modLevel_guidance (s : State) (n : Nat) (f : Level → Level) : (s.modLevel n f).guidance = s.guidance := rfl
@[simp] theorem State.modLevel_supply (s : State) (n : Nat) (f : Level → Level) : (s.modLevel n f).supply = s.supply := rfl
@[simp] theorem State.modLevel_loop (s : State) (n : Nat) (f : Level → Level) : (s.modLevel n f).loop = s.loop := rfl
@[simp] theorem State.modLevel_levels (s : State) (n : Nat) (f : Level → Level) : (s.modLevel n f).levels = s.levels.modify n f := rfl

@[simp] theorem State.modRow_pending (s : State) (n : Nat) (f : Row → Row) : (s.modRow n f).pending = s.pending := rfl
@[simp] theorem State.modRow_deckTime (s : State) (n : Nat) (f : Row → Row) : (s.modRow n f).deckTime = s.deckTime := rfl
@[simp] theorem State.modRow_control (s : State) (n : Nat) (f : Row → Row) : (s.modRow n f).control = s.control := rfl
@[simp] theorem State.modRow_pins (s : State) (n : Nat) (f : Row → Row) : (s.modRow n f).pins = s.pins := rfl
@[simp] theorem State.modRow_ports (s : State) (n : Nat) (f : Row → Row) : (s.modRow n f).ports = s.ports := rfl
@[simp] theorem State.modRow_bays (s : State) (n : Nat) (f : Row → Row) : (s.modRow n f).bays = s.bays := rfl
@[simp] theorem State.modRow_bands (s : State) (n : Nat) (f : Row → Row) : (s.modRow n f).bands = s.bands := rfl
@[simp] theorem State.modRow_jitter (s : State) (n : Nat) (f : Row → Row) : (s.modRow n f).jitter = s.jitter := rfl
@[simp] theorem State.modRow_pairs (s : State) (n : Nat) (f : Row → Row) : (s.modRow n f).pairs = s.pairs := rfl
@[simp] theorem State.modRow_levels (s : State) (n : Nat) (f : Row → Row) : (s.modRow n f).levels = s.levels := rfl
@[simp] theorem State.modRow_censusMinute (s : State) (n : Nat) (f : Row → Row) : (s.modRow n f).censusMinute = s.censusMinute := rfl
@[simp] theorem State.modRow_censusStart (s : State) (n : Nat) (f : Row → Row) : (s.modRow n f).censusStart = s.censusStart := rfl
@[simp] theorem State.modRow_fade (s : State) (n : Nat) (f : Row → Row) : (s.modRow n f).fade = s.fade := rfl
@[simp] theorem State.modRow_heads (s : State) (n : Nat) (f : Row → Row) : (s.modRow n f).heads = s.heads := rfl
@[simp] theorem State.modRow_zones (s : State) (n : Nat) (f : Row → Row) : (s.modRow n f).zones = s.zones := rfl
@[simp] theorem State.modRow_stageTable (s : State) (n : Nat) (f : Row → Row) : (s.modRow n f).stageTable = s.stageTable := rfl
@[simp] theorem State.modRow_airMinute (s : State) (n : Nat) (f : Row → Row) : (s.modRow n f).airMinute = s.airMinute := rfl
@[simp] theorem State.modRow_fans (s : State) (n : Nat) (f : Row → Row) : (s.modRow n f).fans = s.fans := rfl
@[simp] theorem State.modRow_guidance (s : State) (n : Nat) (f : Row → Row) : (s.modRow n f).guidance = s.guidance := rfl
@[simp] theorem State.modRow_supply (s : State) (n : Nat) (f : Row → Row) : (s.modRow n f).supply = s.supply := rfl
@[simp] theorem State.modRow_loop (s : State) (n : Nat) (f : Row → Row) : (s.modRow n f).loop = s.loop := rfl
@[simp] theorem State.modRow_rows (s : State) (n : Nat) (f : Row → Row) : (s.modRow n f).rows = s.rows.modify n f := rfl

@[simp] theorem State.modHead_pending (s : State) (n : Nat) (f : Head → Head) : (s.modHead n f).pending = s.pending := rfl
@[simp] theorem State.modHead_deckTime (s : State) (n : Nat) (f : Head → Head) : (s.modHead n f).deckTime = s.deckTime := rfl
@[simp] theorem State.modHead_control (s : State) (n : Nat) (f : Head → Head) : (s.modHead n f).control = s.control := rfl
@[simp] theorem State.modHead_pins (s : State) (n : Nat) (f : Head → Head) : (s.modHead n f).pins = s.pins := rfl
@[simp] theorem State.modHead_ports (s : State) (n : Nat) (f : Head → Head) : (s.modHead n f).ports = s.ports := rfl
@[simp] theorem State.modHead_bays (s : State) (n : Nat) (f : Head → Head) : (s.modHead n f).bays = s.bays := rfl
@[simp] theorem State.modHead_bands (s : State) (n : Nat) (f : Head → Head) : (s.modHead n f).bands = s.bands := rfl
@[simp] theorem State.modHead_jitter (s : State) (n : Nat) (f : Head → Head) : (s.modHead n f).jitter = s.jitter := rfl
@[simp] theorem State.modHead_pairs (s : State) (n : Nat) (f : Head → Head) : (s.modHead n f).pairs = s.pairs := rfl
@[simp] theorem State.modHead_levels (s : State) (n : Nat) (f : Head → Head) : (s.modHead n f).levels = s.levels := rfl
@[simp] theorem State.modHead_censusMinute (s : State) (n : Nat) (f : Head → Head) : (s.modHead n f).censusMinute = s.censusMinute := rfl
@[simp] theorem State.modHead_censusStart (s : State) (n : Nat) (f : Head → Head) : (s.modHead n f).censusStart = s.censusStart := rfl
@[simp] theorem State.modHead_rows (s : State) (n : Nat) (f : Head → Head) : (s.modHead n f).rows = s.rows := rfl
@[simp] theorem State.modHead_fade (s : State) (n : Nat) (f : Head → Head) : (s.modHead n f).fade = s.fade := rfl
@[simp] theorem State.modHead_zones (s : State) (n : Nat) (f : Head → Head) : (s.modHead n f).zones = s.zones := rfl
@[simp] theorem State.modHead_stageTable (s : State) (n : Nat) (f : Head → Head) : (s.modHead n f).stageTable = s.stageTable := rfl
@[simp] theorem State.modHead_airMinute (s : State) (n : Nat) (f : Head → Head) : (s.modHead n f).airMinute = s.airMinute := rfl
@[simp] theorem State.modHead_fans (s : State) (n : Nat) (f : Head → Head) : (s.modHead n f).fans = s.fans := rfl
@[simp] theorem State.modHead_guidance (s : State) (n : Nat) (f : Head → Head) : (s.modHead n f).guidance = s.guidance := rfl
@[simp] theorem State.modHead_supply (s : State) (n : Nat) (f : Head → Head) : (s.modHead n f).supply = s.supply := rfl
@[simp] theorem State.modHead_loop (s : State) (n : Nat) (f : Head → Head) : (s.modHead n f).loop = s.loop := rfl
@[simp] theorem State.modHead_heads (s : State) (n : Nat) (f : Head → Head) : (s.modHead n f).heads = s.heads.modify n f := rfl

@[simp] theorem State.modZone_pending (s : State) (n : Nat) (f : Zone → Zone) : (s.modZone n f).pending = s.pending := rfl
@[simp] theorem State.modZone_deckTime (s : State) (n : Nat) (f : Zone → Zone) : (s.modZone n f).deckTime = s.deckTime := rfl
@[simp] theorem State.modZone_control (s : State) (n : Nat) (f : Zone → Zone) : (s.modZone n f).control = s.control := rfl
@[simp] theorem State.modZone_pins (s : State) (n : Nat) (f : Zone → Zone) : (s.modZone n f).pins = s.pins := rfl
@[simp] theorem State.modZone_ports (s : State) (n : Nat) (f : Zone → Zone) : (s.modZone n f).ports = s.ports := rfl
@[simp] theorem State.modZone_bays (s : State) (n : Nat) (f : Zone → Zone) : (s.modZone n f).bays = s.bays := rfl
@[simp] theorem State.modZone_bands (s : State) (n : Nat) (f : Zone → Zone) : (s.modZone n f).bands = s.bands := rfl
@[simp] theorem State.modZone_jitter (s : State) (n : Nat) (f : Zone → Zone) : (s.modZone n f).jitter = s.jitter := rfl
@[simp] theorem State.modZone_pairs (s : State) (n : Nat) (f : Zone → Zone) : (s.modZone n f).pairs = s.pairs := rfl
@[simp] theorem State.modZone_levels (s : State) (n : Nat) (f : Zone → Zone) : (s.modZone n f).levels = s.levels := rfl
@[simp] theorem State.modZone_censusMinute (s : State) (n : Nat) (f : Zone → Zone) : (s.modZone n f).censusMinute = s.censusMinute := rfl
@[simp] theorem State.modZone_censusStart (s : State) (n : Nat) (f : Zone → Zone) : (s.modZone n f).censusStart = s.censusStart := rfl
@[simp] theorem State.modZone_rows (s : State) (n : Nat) (f : Zone → Zone) : (s.modZone n f).rows = s.rows := rfl
@[simp] theorem State.modZone_fade (s : State) (n : Nat) (f : Zone → Zone) : (s.modZone n f).fade = s.fade := rfl
@[simp] theorem State.modZone_heads (s : State) (n : Nat) (f : Zone → Zone) : (s.modZone n f).heads = s.heads := rfl
@[simp] theorem State.modZone_stageTable (s : State) (n : Nat) (f : Zone → Zone) : (s.modZone n f).stageTable = s.stageTable := rfl
@[simp] theorem State.modZone_airMinute (s : State) (n : Nat) (f : Zone → Zone) : (s.modZone n f).airMinute = s.airMinute := rfl
@[simp] theorem State.modZone_fans (s : State) (n : Nat) (f : Zone → Zone) : (s.modZone n f).fans = s.fans := rfl
@[simp] theorem State.modZone_guidance (s : State) (n : Nat) (f : Zone → Zone) : (s.modZone n f).guidance = s.guidance := rfl
@[simp] theorem State.modZone_supply (s : State) (n : Nat) (f : Zone → Zone) : (s.modZone n f).supply = s.supply := rfl
@[simp] theorem State.modZone_loop (s : State) (n : Nat) (f : Zone → Zone) : (s.modZone n f).loop = s.loop := rfl
@[simp] theorem State.modZone_zones (s : State) (n : Nat) (f : Zone → Zone) : (s.modZone n f).zones = s.zones.modify n f := rfl

@[simp] theorem State.modFan_pending (s : State) (n : Nat) (f : Fan → Fan) : (s.modFan n f).pending = s.pending := rfl
@[simp] theorem State.modFan_deckTime (s : State) (n : Nat) (f : Fan → Fan) : (s.modFan n f).deckTime = s.deckTime := rfl
@[simp] theorem State.modFan_control (s : State) (n : Nat) (f : Fan → Fan) : (s.modFan n f).control = s.control := rfl
@[simp] theorem State.modFan_pins (s : State) (n : Nat) (f : Fan → Fan) : (s.modFan n f).pins = s.pins := rfl
@[simp] theorem State.modFan_ports (s : State) (n : Nat) (f : Fan → Fan) : (s.modFan n f).ports = s.ports := rfl
@[simp] theorem State.modFan_bays (s : State) (n : Nat) (f : Fan → Fan) : (s.modFan n f).bays = s.bays := rfl
@[simp] theorem State.modFan_bands (s : State) (n : Nat) (f : Fan → Fan) : (s.modFan n f).bands = s.bands := rfl
@[simp] theorem State.modFan_jitter (s : State) (n : Nat) (f : Fan → Fan) : (s.modFan n f).jitter = s.jitter := rfl
@[simp] theorem State.modFan_pairs (s : State) (n : Nat) (f : Fan → Fan) : (s.modFan n f).pairs = s.pairs := rfl
@[simp] theorem State.modFan_levels (s : State) (n : Nat) (f : Fan → Fan) : (s.modFan n f).levels = s.levels := rfl
@[simp] theorem State.modFan_censusMinute (s : State) (n : Nat) (f : Fan → Fan) : (s.modFan n f).censusMinute = s.censusMinute := rfl
@[simp] theorem State.modFan_censusStart (s : State) (n : Nat) (f : Fan → Fan) : (s.modFan n f).censusStart = s.censusStart := rfl
@[simp] theorem State.modFan_rows (s : State) (n : Nat) (f : Fan → Fan) : (s.modFan n f).rows = s.rows := rfl
@[simp] theorem State.modFan_fade (s : State) (n : Nat) (f : Fan → Fan) : (s.modFan n f).fade = s.fade := rfl
@[simp] theorem State.modFan_heads (s : State) (n : Nat) (f : Fan → Fan) : (s.modFan n f).heads = s.heads := rfl
@[simp] theorem State.modFan_zones (s : State) (n : Nat) (f : Fan → Fan) : (s.modFan n f).zones = s.zones := rfl
@[simp] theorem State.modFan_stageTable (s : State) (n : Nat) (f : Fan → Fan) : (s.modFan n f).stageTable = s.stageTable := rfl
@[simp] theorem State.modFan_airMinute (s : State) (n : Nat) (f : Fan → Fan) : (s.modFan n f).airMinute = s.airMinute := rfl
@[simp] theorem State.modFan_guidance (s : State) (n : Nat) (f : Fan → Fan) : (s.modFan n f).guidance = s.guidance := rfl
@[simp] theorem State.modFan_supply (s : State) (n : Nat) (f : Fan → Fan) : (s.modFan n f).supply = s.supply := rfl
@[simp] theorem State.modFan_loop (s : State) (n : Nat) (f : Fan → Fan) : (s.modFan n f).loop = s.loop := rfl
@[simp] theorem State.modFan_fans (s : State) (n : Nat) (f : Fan → Fan) : (s.modFan n f).fans = s.fans.modify n f := rfl

@[simp] theorem State.setGuidance_pending (s : State) (g : Guidance) : (s.setGuidance g).pending = s.pending := rfl
@[simp] theorem State.setGuidance_deckTime (s : State) (g : Guidance) : (s.setGuidance g).deckTime = s.deckTime := rfl
@[simp] theorem State.setGuidance_control (s : State) (g : Guidance) : (s.setGuidance g).control = s.control := rfl
@[simp] theorem State.setGuidance_pins (s : State) (g : Guidance) : (s.setGuidance g).pins = s.pins := rfl
@[simp] theorem State.setGuidance_ports (s : State) (g : Guidance) : (s.setGuidance g).ports = s.ports := rfl
@[simp] theorem State.setGuidance_bays (s : State) (g : Guidance) : (s.setGuidance g).bays = s.bays := rfl
@[simp] theorem State.setGuidance_bands (s : State) (g : Guidance) : (s.setGuidance g).bands = s.bands := rfl
@[simp] theorem State.setGuidance_jitter (s : State) (g : Guidance) : (s.setGuidance g).jitter = s.jitter := rfl
@[simp] theorem State.setGuidance_pairs (s : State) (g : Guidance) : (s.setGuidance g).pairs = s.pairs := rfl
@[simp] theorem State.setGuidance_levels (s : State) (g : Guidance) : (s.setGuidance g).levels = s.levels := rfl
@[simp] theorem State.setGuidance_censusMinute (s : State) (g : Guidance) : (s.setGuidance g).censusMinute = s.censusMinute := rfl
@[simp] theorem State.setGuidance_censusStart (s : State) (g : Guidance) : (s.setGuidance g).censusStart = s.censusStart := rfl
@[simp] theorem State.setGuidance_rows (s : State) (g : Guidance) : (s.setGuidance g).rows = s.rows := rfl
@[simp] theorem State.setGuidance_fade (s : State) (g : Guidance) : (s.setGuidance g).fade = s.fade := rfl
@[simp] theorem State.setGuidance_heads (s : State) (g : Guidance) : (s.setGuidance g).heads = s.heads := rfl
@[simp] theorem State.setGuidance_zones (s : State) (g : Guidance) : (s.setGuidance g).zones = s.zones := rfl
@[simp] theorem State.setGuidance_stageTable (s : State) (g : Guidance) : (s.setGuidance g).stageTable = s.stageTable := rfl
@[simp] theorem State.setGuidance_airMinute (s : State) (g : Guidance) : (s.setGuidance g).airMinute = s.airMinute := rfl
@[simp] theorem State.setGuidance_fans (s : State) (g : Guidance) : (s.setGuidance g).fans = s.fans := rfl
@[simp] theorem State.setGuidance_supply (s : State) (g : Guidance) : (s.setGuidance g).supply = s.supply := rfl
@[simp] theorem State.setGuidance_loop (s : State) (g : Guidance) : (s.setGuidance g).loop = s.loop := rfl
@[simp] theorem State.setGuidance_guidance (s : State) (g : Guidance) : (s.setGuidance g).guidance = g := rfl

@[simp] theorem State.setSupply_pending (s : State) (u : Supply) : (s.setSupply u).pending = s.pending := rfl
@[simp] theorem State.setSupply_deckTime (s : State) (u : Supply) : (s.setSupply u).deckTime = s.deckTime := rfl
@[simp] theorem State.setSupply_control (s : State) (u : Supply) : (s.setSupply u).control = s.control := rfl
@[simp] theorem State.setSupply_pins (s : State) (u : Supply) : (s.setSupply u).pins = s.pins := rfl
@[simp] theorem State.setSupply_ports (s : State) (u : Supply) : (s.setSupply u).ports = s.ports := rfl
@[simp] theorem State.setSupply_bays (s : State) (u : Supply) : (s.setSupply u).bays = s.bays := rfl
@[simp] theorem State.setSupply_bands (s : State) (u : Supply) : (s.setSupply u).bands = s.bands := rfl
@[simp] theorem State.setSupply_jitter (s : State) (u : Supply) : (s.setSupply u).jitter = s.jitter := rfl
@[simp] theorem State.setSupply_pairs (s : State) (u : Supply) : (s.setSupply u).pairs = s.pairs := rfl
@[simp] theorem State.setSupply_levels (s : State) (u : Supply) : (s.setSupply u).levels = s.levels := rfl
@[simp] theorem State.setSupply_censusMinute (s : State) (u : Supply) : (s.setSupply u).censusMinute = s.censusMinute := rfl
@[simp] theorem State.setSupply_censusStart (s : State) (u : Supply) : (s.setSupply u).censusStart = s.censusStart := rfl
@[simp] theorem State.setSupply_rows (s : State) (u : Supply) : (s.setSupply u).rows = s.rows := rfl
@[simp] theorem State.setSupply_fade (s : State) (u : Supply) : (s.setSupply u).fade = s.fade := rfl
@[simp] theorem State.setSupply_heads (s : State) (u : Supply) : (s.setSupply u).heads = s.heads := rfl
@[simp] theorem State.setSupply_zones (s : State) (u : Supply) : (s.setSupply u).zones = s.zones := rfl
@[simp] theorem State.setSupply_stageTable (s : State) (u : Supply) : (s.setSupply u).stageTable = s.stageTable := rfl
@[simp] theorem State.setSupply_airMinute (s : State) (u : Supply) : (s.setSupply u).airMinute = s.airMinute := rfl
@[simp] theorem State.setSupply_fans (s : State) (u : Supply) : (s.setSupply u).fans = s.fans := rfl
@[simp] theorem State.setSupply_guidance (s : State) (u : Supply) : (s.setSupply u).guidance = s.guidance := rfl
@[simp] theorem State.setSupply_loop (s : State) (u : Supply) : (s.setSupply u).loop = s.loop := rfl
@[simp] theorem State.setSupply_supply (s : State) (u : Supply) : (s.setSupply u).supply = u := rfl

@[simp] theorem State.setLoop_pending (s : State) (l : FieldLoop) : (s.setLoop l).pending = s.pending := rfl
@[simp] theorem State.setLoop_deckTime (s : State) (l : FieldLoop) : (s.setLoop l).deckTime = s.deckTime := rfl
@[simp] theorem State.setLoop_control (s : State) (l : FieldLoop) : (s.setLoop l).control = s.control := rfl
@[simp] theorem State.setLoop_pins (s : State) (l : FieldLoop) : (s.setLoop l).pins = s.pins := rfl
@[simp] theorem State.setLoop_ports (s : State) (l : FieldLoop) : (s.setLoop l).ports = s.ports := rfl
@[simp] theorem State.setLoop_bays (s : State) (l : FieldLoop) : (s.setLoop l).bays = s.bays := rfl
@[simp] theorem State.setLoop_bands (s : State) (l : FieldLoop) : (s.setLoop l).bands = s.bands := rfl
@[simp] theorem State.setLoop_jitter (s : State) (l : FieldLoop) : (s.setLoop l).jitter = s.jitter := rfl
@[simp] theorem State.setLoop_pairs (s : State) (l : FieldLoop) : (s.setLoop l).pairs = s.pairs := rfl
@[simp] theorem State.setLoop_levels (s : State) (l : FieldLoop) : (s.setLoop l).levels = s.levels := rfl
@[simp] theorem State.setLoop_censusMinute (s : State) (l : FieldLoop) : (s.setLoop l).censusMinute = s.censusMinute := rfl
@[simp] theorem State.setLoop_censusStart (s : State) (l : FieldLoop) : (s.setLoop l).censusStart = s.censusStart := rfl
@[simp] theorem State.setLoop_rows (s : State) (l : FieldLoop) : (s.setLoop l).rows = s.rows := rfl
@[simp] theorem State.setLoop_fade (s : State) (l : FieldLoop) : (s.setLoop l).fade = s.fade := rfl
@[simp] theorem State.setLoop_heads (s : State) (l : FieldLoop) : (s.setLoop l).heads = s.heads := rfl
@[simp] theorem State.setLoop_zones (s : State) (l : FieldLoop) : (s.setLoop l).zones = s.zones := rfl
@[simp] theorem State.setLoop_stageTable (s : State) (l : FieldLoop) : (s.setLoop l).stageTable = s.stageTable := rfl
@[simp] theorem State.setLoop_airMinute (s : State) (l : FieldLoop) : (s.setLoop l).airMinute = s.airMinute := rfl
@[simp] theorem State.setLoop_fans (s : State) (l : FieldLoop) : (s.setLoop l).fans = s.fans := rfl
@[simp] theorem State.setLoop_guidance (s : State) (l : FieldLoop) : (s.setLoop l).guidance = s.guidance := rfl
@[simp] theorem State.setLoop_supply (s : State) (l : FieldLoop) : (s.setLoop l).supply = s.supply := rfl
@[simp] theorem State.setLoop_loop (s : State) (l : FieldLoop) : (s.setLoop l).loop = l := rfl

@[simp] theorem State.setControl_pending (s : State) (c : Control) : (s.setControl c).pending = s.pending := rfl
@[simp] theorem State.setControl_deckTime (s : State) (c : Control) : (s.setControl c).deckTime = s.deckTime := rfl
@[simp] theorem State.setControl_pins (s : State) (c : Control) : (s.setControl c).pins = s.pins := rfl
@[simp] theorem State.setControl_ports (s : State) (c : Control) : (s.setControl c).ports = s.ports := rfl
@[simp] theorem State.setControl_bays (s : State) (c : Control) : (s.setControl c).bays = s.bays := rfl
@[simp] theorem State.setControl_bands (s : State) (c : Control) : (s.setControl c).bands = s.bands := rfl
@[simp] theorem State.setControl_jitter (s : State) (c : Control) : (s.setControl c).jitter = s.jitter := rfl
@[simp] theorem State.setControl_pairs (s : State) (c : Control) : (s.setControl c).pairs = s.pairs := rfl
@[simp] theorem State.setControl_levels (s : State) (c : Control) : (s.setControl c).levels = s.levels := rfl
@[simp] theorem State.setControl_censusMinute (s : State) (c : Control) : (s.setControl c).censusMinute = s.censusMinute := rfl
@[simp] theorem State.setControl_censusStart (s : State) (c : Control) : (s.setControl c).censusStart = s.censusStart := rfl
@[simp] theorem State.setControl_rows (s : State) (c : Control) : (s.setControl c).rows = s.rows := rfl
@[simp] theorem State.setControl_fade (s : State) (c : Control) : (s.setControl c).fade = s.fade := rfl
@[simp] theorem State.setControl_heads (s : State) (c : Control) : (s.setControl c).heads = s.heads := rfl
@[simp] theorem State.setControl_zones (s : State) (c : Control) : (s.setControl c).zones = s.zones := rfl
@[simp] theorem State.setControl_stageTable (s : State) (c : Control) : (s.setControl c).stageTable = s.stageTable := rfl
@[simp] theorem State.setControl_airMinute (s : State) (c : Control) : (s.setControl c).airMinute = s.airMinute := rfl
@[simp] theorem State.setControl_fans (s : State) (c : Control) : (s.setControl c).fans = s.fans := rfl
@[simp] theorem State.setControl_guidance (s : State) (c : Control) : (s.setControl c).guidance = s.guidance := rfl
@[simp] theorem State.setControl_supply (s : State) (c : Control) : (s.setControl c).supply = s.supply := rfl
@[simp] theorem State.setControl_loop (s : State) (c : Control) : (s.setControl c).loop = s.loop := rfl
@[simp] theorem State.setControl_control (s : State) (c : Control) : (s.setControl c).control = c := rfl

@[simp] theorem State.setWorking_pending (s : State) (c : Configuration) : (s.setWorking c).pending = s.pending := rfl
@[simp] theorem State.setWorking_deckTime (s : State) (c : Configuration) : (s.setWorking c).deckTime = s.deckTime := rfl
@[simp] theorem State.setWorking_pins (s : State) (c : Configuration) : (s.setWorking c).pins = s.pins := rfl
@[simp] theorem State.setWorking_ports (s : State) (c : Configuration) : (s.setWorking c).ports = s.ports := rfl
@[simp] theorem State.setWorking_bays (s : State) (c : Configuration) : (s.setWorking c).bays = s.bays := rfl
@[simp] theorem State.setWorking_bands (s : State) (c : Configuration) : (s.setWorking c).bands = s.bands := rfl
@[simp] theorem State.setWorking_jitter (s : State) (c : Configuration) : (s.setWorking c).jitter = s.jitter := rfl
@[simp] theorem State.setWorking_pairs (s : State) (c : Configuration) : (s.setWorking c).pairs = s.pairs := rfl
@[simp] theorem State.setWorking_levels (s : State) (c : Configuration) : (s.setWorking c).levels = s.levels := rfl
@[simp] theorem State.setWorking_censusMinute (s : State) (c : Configuration) : (s.setWorking c).censusMinute = s.censusMinute := rfl
@[simp] theorem State.setWorking_censusStart (s : State) (c : Configuration) : (s.setWorking c).censusStart = s.censusStart := rfl
@[simp] theorem State.setWorking_rows (s : State) (c : Configuration) : (s.setWorking c).rows = s.rows := rfl
@[simp] theorem State.setWorking_fade (s : State) (c : Configuration) : (s.setWorking c).fade = s.fade := rfl
@[simp] theorem State.setWorking_heads (s : State) (c : Configuration) : (s.setWorking c).heads = s.heads := rfl
@[simp] theorem State.setWorking_zones (s : State) (c : Configuration) : (s.setWorking c).zones = s.zones := rfl
@[simp] theorem State.setWorking_stageTable (s : State) (c : Configuration) : (s.setWorking c).stageTable = s.stageTable := rfl
@[simp] theorem State.setWorking_airMinute (s : State) (c : Configuration) : (s.setWorking c).airMinute = s.airMinute := rfl
@[simp] theorem State.setWorking_fans (s : State) (c : Configuration) : (s.setWorking c).fans = s.fans := rfl
@[simp] theorem State.setWorking_guidance (s : State) (c : Configuration) : (s.setWorking c).guidance = s.guidance := rfl
@[simp] theorem State.setWorking_supply (s : State) (c : Configuration) : (s.setWorking c).supply = s.supply := rfl
@[simp] theorem State.setWorking_loop (s : State) (c : Configuration) : (s.setWorking c).loop = s.loop := rfl
@[simp] theorem State.setWorking_control (s : State) (c : Configuration) :
    (s.setWorking c).control = { s.control with working := some c } := rfl

@[simp] theorem State.withPending_deckTime (s : State) (q : List Instr) : (s.withPending q).deckTime = s.deckTime := rfl
@[simp] theorem State.withPending_control (s : State) (q : List Instr) : (s.withPending q).control = s.control := rfl
@[simp] theorem State.withPending_pins (s : State) (q : List Instr) : (s.withPending q).pins = s.pins := rfl
@[simp] theorem State.withPending_ports (s : State) (q : List Instr) : (s.withPending q).ports = s.ports := rfl
@[simp] theorem State.withPending_bays (s : State) (q : List Instr) : (s.withPending q).bays = s.bays := rfl
@[simp] theorem State.withPending_bands (s : State) (q : List Instr) : (s.withPending q).bands = s.bands := rfl
@[simp] theorem State.withPending_jitter (s : State) (q : List Instr) : (s.withPending q).jitter = s.jitter := rfl
@[simp] theorem State.withPending_pairs (s : State) (q : List Instr) : (s.withPending q).pairs = s.pairs := rfl
@[simp] theorem State.withPending_levels (s : State) (q : List Instr) : (s.withPending q).levels = s.levels := rfl
@[simp] theorem State.withPending_censusMinute (s : State) (q : List Instr) : (s.withPending q).censusMinute = s.censusMinute := rfl
@[simp] theorem State.withPending_censusStart (s : State) (q : List Instr) : (s.withPending q).censusStart = s.censusStart := rfl
@[simp] theorem State.withPending_rows (s : State) (q : List Instr) : (s.withPending q).rows = s.rows := rfl
@[simp] theorem State.withPending_fade (s : State) (q : List Instr) : (s.withPending q).fade = s.fade := rfl
@[simp] theorem State.withPending_heads (s : State) (q : List Instr) : (s.withPending q).heads = s.heads := rfl
@[simp] theorem State.withPending_zones (s : State) (q : List Instr) : (s.withPending q).zones = s.zones := rfl
@[simp] theorem State.withPending_stageTable (s : State) (q : List Instr) : (s.withPending q).stageTable = s.stageTable := rfl
@[simp] theorem State.withPending_airMinute (s : State) (q : List Instr) : (s.withPending q).airMinute = s.airMinute := rfl
@[simp] theorem State.withPending_fans (s : State) (q : List Instr) : (s.withPending q).fans = s.fans := rfl
@[simp] theorem State.withPending_guidance (s : State) (q : List Instr) : (s.withPending q).guidance = s.guidance := rfl
@[simp] theorem State.withPending_supply (s : State) (q : List Instr) : (s.withPending q).supply = s.supply := rfl
@[simp] theorem State.withPending_loop (s : State) (q : List Instr) : (s.withPending q).loop = s.loop := rfl
@[simp] theorem State.withPending_pending (s : State) (q : List Instr) : (s.withPending q).pending = q := rfl

/-! ### Ports -/

@[simp] theorem State.port_setPort (s : State) (st st' : Station) (p : Port) :
    (s.setPort st p).port st' = if st' = st then p else s.port st' := by cases st <;> cases st' <;> rfl

@[simp] theorem State.setPort_port (s : State) (st : Station) : s.setPort st (s.port st) = s := by cases st <;> rfl

@[simp] theorem State.setPort_setPort (s : State) (st : Station) (p q : Port) :
    (s.setPort st p).setPort st q = s.setPort st q := by cases st <;> rfl

theorem State.port_congr {s s' : State} (h : s'.ports = s.ports) (st : Station) : s'.port st = s.port st := by
  cases st <;> simp [State.port, h]

@[simp] theorem State.port_modBay (s : State) (n : Nat) (f : Bay → Bay) (st : Station) : (s.modBay n f).port st = s.port st := by
  cases st <;> rfl
@[simp] theorem State.port_modPair (s : State) (n : Nat) (f : RampPair → RampPair) (st : Station) : (s.modPair n f).port st = s.port st := by
  cases st <;> rfl
@[simp] theorem State.port_modLevel (s : State) (n : Nat) (f : Level → Level) (st : Station) : (s.modLevel n f).port st = s.port st := by
  cases st <;> rfl
@[simp] theorem State.port_modRow (s : State) (n : Nat) (f : Row → Row) (st : Station) : (s.modRow n f).port st = s.port st := by
  cases st <;> rfl
@[simp] theorem State.port_modHead (s : State) (n : Nat) (f : Head → Head) (st : Station) : (s.modHead n f).port st = s.port st := by
  cases st <;> rfl
@[simp] theorem State.port_modZone (s : State) (n : Nat) (f : Zone → Zone) (st : Station) : (s.modZone n f).port st = s.port st := by
  cases st <;> rfl
@[simp] theorem State.port_modFan (s : State) (n : Nat) (f : Fan → Fan) (st : Station) : (s.modFan n f).port st = s.port st := by
  cases st <;> rfl
@[simp] theorem State.port_setGuidance (s : State) (g : Guidance) (st : Station) : (s.setGuidance g).port st = s.port st := by
  cases st <;> rfl
@[simp] theorem State.port_setSupply (s : State) (u : Supply) (st : Station) : (s.setSupply u).port st = s.port st := by
  cases st <;> rfl
@[simp] theorem State.port_setLoop (s : State) (l : FieldLoop) (st : Station) : (s.setLoop l).port st = s.port st := by
  cases st <;> rfl
@[simp] theorem State.port_setControl (s : State) (c : Control) (st : Station) : (s.setControl c).port st = s.port st := by
  cases st <;> rfl
@[simp] theorem State.port_setWorking (s : State) (c : Configuration) (st : Station) : (s.setWorking c).port st = s.port st := by
  cases st <;> rfl
@[simp] theorem State.port_withPending (s : State) (q : List Instr) (st : Station) : (s.withPending q).port st = s.port st := by
  cases st <;> rfl

/-! ### Figures that read only some fields -/

@[simp] theorem State.inRun_setPort (s : State) (st : Station) (p : Port) : (s.setPort st p).inRun = s.inRun := by cases st <;> rfl
@[simp] theorem State.writing_setPort (s : State) (st : Station) (p : Port) : (s.setPort st p).writing = s.writing := by cases st <;> rfl
@[simp] theorem State.inRun_modBay (s : State) (n : Nat) (f : Bay → Bay) : (s.modBay n f).inRun = s.inRun := rfl
@[simp] theorem State.writing_modBay (s : State) (n : Nat) (f : Bay → Bay) : (s.modBay n f).writing = s.writing := rfl
@[simp] theorem State.inRun_modPair (s : State) (n : Nat) (f : RampPair → RampPair) : (s.modPair n f).inRun = s.inRun := rfl
@[simp] theorem State.writing_modPair (s : State) (n : Nat) (f : RampPair → RampPair) : (s.modPair n f).writing = s.writing := rfl
@[simp] theorem State.inRun_modLevel (s : State) (n : Nat) (f : Level → Level) : (s.modLevel n f).inRun = s.inRun := rfl
@[simp] theorem State.writing_modLevel (s : State) (n : Nat) (f : Level → Level) : (s.modLevel n f).writing = s.writing := rfl
@[simp] theorem State.inRun_modRow (s : State) (n : Nat) (f : Row → Row) : (s.modRow n f).inRun = s.inRun := rfl
@[simp] theorem State.writing_modRow (s : State) (n : Nat) (f : Row → Row) : (s.modRow n f).writing = s.writing := rfl
@[simp] theorem State.inRun_modHead (s : State) (n : Nat) (f : Head → Head) : (s.modHead n f).inRun = s.inRun := rfl
@[simp] theorem State.writing_modHead (s : State) (n : Nat) (f : Head → Head) : (s.modHead n f).writing = s.writing := rfl
@[simp] theorem State.inRun_modZone (s : State) (n : Nat) (f : Zone → Zone) : (s.modZone n f).inRun = s.inRun := rfl
@[simp] theorem State.writing_modZone (s : State) (n : Nat) (f : Zone → Zone) : (s.modZone n f).writing = s.writing := rfl
@[simp] theorem State.inRun_modFan (s : State) (n : Nat) (f : Fan → Fan) : (s.modFan n f).inRun = s.inRun := rfl
@[simp] theorem State.writing_modFan (s : State) (n : Nat) (f : Fan → Fan) : (s.modFan n f).writing = s.writing := rfl
@[simp] theorem State.inRun_setGuidance (s : State) (g : Guidance) : (s.setGuidance g).inRun = s.inRun := rfl
@[simp] theorem State.writing_setGuidance (s : State) (g : Guidance) : (s.setGuidance g).writing = s.writing := rfl
@[simp] theorem State.inRun_setSupply (s : State) (u : Supply) : (s.setSupply u).inRun = s.inRun := rfl
@[simp] theorem State.writing_setSupply (s : State) (u : Supply) : (s.setSupply u).writing = s.writing := rfl
@[simp] theorem State.inRun_setLoop (s : State) (l : FieldLoop) : (s.setLoop l).inRun = s.inRun := rfl
@[simp] theorem State.writing_setLoop (s : State) (l : FieldLoop) : (s.setLoop l).writing = s.writing := rfl
@[simp] theorem State.inRun_withPending (s : State) (q : List Instr) : (s.withPending q).inRun = s.inRun := rfl
@[simp] theorem State.writing_withPending (s : State) (q : List Instr) : (s.withPending q).writing = s.writing := rfl
@[simp] theorem State.inRun_setWorking (s : State) (c : Configuration) : (s.setWorking c).inRun = s.inRun := rfl
@[simp] theorem State.writing_setWorking (s : State) (c : Configuration) : (s.setWorking c).writing = s.writing := rfl
@[simp] theorem State.workingCopy_setWorking (s : State) (c : Configuration) : (s.setWorking c).workingCopy = c := rfl

end Sys2Proof.Machine
end

