-- ==== Sys2Proof/Laws/Tables.lean ====
section
/-! SUPPORT. Record tables: reading back a write, leaving every other number alone, keeping the numbers rising; and plain
lists, sums and repeated actions. -/

namespace Sys2Proof.Machine

/-! ### Reading back -/

@[simp] theorem Table.find_nil {α : Type} (k : Nat) : Table.find ([] : Table α) k = none := rfl

theorem Table.find_cons {α : Type} (i k : Nat) (x : α) (t : Table α) :
    Table.find ((i, x) :: t) k = if i = k then some x else Table.find t k := rfl

@[simp] theorem Table.find_modify {α : Type} (t : Table α) (k j : Nat) (f : α → α) :
    (t.modify k f).find j = if j = k then (t.find j).map f else t.find j := by
  induction t with
  | nil => simp [Table.modify]
  | cons p t ih =>
    obtain ⟨i, x⟩ := p
    simp only [Table.modify]
    by_cases hik : i = k
    · subst hik
      simp only [if_true, Table.find_cons]
      by_cases hj : i = j
      · subst hj; simp
      · have : ¬ j = i := fun h => hj h.symm
        simp [hj, this]
    · simp only [if_neg hik, Table.find_cons, ih]
      by_cases hj : i = j
      · subst hj; simp [hik]
      · simp [hj]

@[simp] theorem Table.find_mapRecords {α β : Type} (f : Nat → α → β) (t : Table α) (k : Nat) :
    (t.mapRecords f).find k = (t.find k).map (f k) := by
  induction t with
  | nil => rfl
  | cons p t ih =>
    obtain ⟨i, x⟩ := p
    simp only [Table.mapRecords, List.map_cons, Table.find_cons] at ih ⊢
    by_cases h : i = k
    · subst h; simp
    · simp [h, ih]

@[simp] theorem Table.find_put {α : Type} (t : Table α) (k j : Nat) (v : α) (h : t.rising = true) :
    (Table.put k v t).find j = if j = k then some v else t.find j := by
  induction t with
  | nil => simp [Table.put, Table.find_cons, eq_comm]
  | cons p t ih =>
    obtain ⟨i, x⟩ := p
    have ht : Table.rising t = true := by
      cases t with
      | nil => rfl
      | cons q t => obtain ⟨j, y⟩ := q; simp [Table.rising] at h; exact h.2
    simp only [Table.put]
    split
    · rename_i hlt
      simp only [Table.find_cons]
      by_cases hj : j = k
      · subst hj; simp
      · simp [hj, Ne.symm hj]
    · split
      · rename_i _ he
        subst he
        simp only [Table.find_cons]
        by_cases hj : j = k
        · subst hj; simp
        · simp [hj, Ne.symm hj]
      · rename_i hlt hne
        simp only [Table.find_cons, ih ht]
        by_cases hj : i = j
        · subst hj; simp [Ne.symm hne]
        · simp [hj]

/-! ### The first number of a rising table -/

/-- Every number of a table lies above a bound. -/
def Table.above {α : Type} (b : Nat) (t : Table α) : Prop := ∀ p ∈ t, b < p.1

theorem Table.rising_cons {α : Type} (i : Nat) (x : α) (t : Table α) :
    Table.rising ((i, x) :: t) = true ↔ Table.above i t ∧ Table.rising t = true := by
  induction t generalizing i x with
  | nil => simp [Table.rising, Table.above]
  | cons p t ih =>
    obtain ⟨j, y⟩ := p
    simp only [Table.rising, Bool.and_eq_true, decide_eq_true_eq]
    constructor
    · rintro ⟨hij, hr⟩
      refine ⟨?_, hr⟩
      intro q hq
      rcases List.mem_cons.1 hq with rfl | hq
      · exact hij
      · exact lt_trans hij (((ih j y).1 hr).1 q hq)
    · rintro ⟨ha, hr⟩
      exact ⟨ha (j, y) (by simp), hr⟩

theorem Table.find_above {α : Type} (b k : Nat) (t : Table α) (h : Table.above b t) (hk : k ≤ b) : t.find k = none := by
  induction t with
  | nil => rfl
  | cons p t ih =>
    obtain ⟨i, x⟩ := p
    have hi : b < i := h (i, x) (by simp)
    have : ¬ i = k := by omega
    rw [Table.find_cons, if_neg this]
    exact ih fun q hq => h q (by simp [hq])

/-- In a rising table a record is found under its number exactly when it is there. -/
theorem Table.find_eq_some_iff {α : Type} (t : Table α) (h : t.rising = true) (k : Nat) (x : α) :
    t.find k = some x ↔ (k, x) ∈ t := by
  induction t with
  | nil => simp
  | cons p t ih =>
    obtain ⟨i, y⟩ := p
    obtain ⟨ha, hr⟩ := (Table.rising_cons i y t).1 h
    rw [Table.find_cons]
    by_cases hik : i = k
    · subst hik
      simp only [if_true, List.mem_cons, Prod.mk.injEq, true_and]
      constructor
      · intro e; exact Or.inl (Option.some.inj e).symm
      · rintro (rfl | hm)
        · rfl
        · exact absurd (ha _ hm) (lt_irrefl _)
    · simp only [if_neg hik, ih hr, List.mem_cons, Prod.mk.injEq]
      constructor
      · exact Or.inr
      · rintro (⟨rfl, _⟩ | hm)
        · exact absurd rfl hik
        · exact hm

theorem Table.find_mem {α : Type} (t : Table α) (k : Nat) (x : α) (h : t.find k = some x) : (k, x) ∈ t := by
  induction t with
  | nil => simp at h
  | cons p t ih =>
    obtain ⟨i, y⟩ := p
    rw [Table.find_cons] at h
    split at h
    · rename_i e; subst e; cases h; simp
    · exact List.mem_cons_of_mem _ (ih h)

/-! ### The numbers stay rising -/

@[simp] theorem Table.numbers_modify {α : Type} (t : Table α) (k : Nat) (f : α → α) : (t.modify k f).numbers = t.numbers := by
  induction t with
  | nil => rfl
  | cons p t ih =>
    obtain ⟨i, x⟩ := p
    simp only [Table.modify]
    split
    · rfl
    · simp only [Table.numbers, List.map_cons] at ih ⊢
      rw [ih]

@[simp] theorem Table.numbers_mapRecords {α β : Type} (f : Nat → α → β) (t : Table α) :
    (t.mapRecords f).numbers = t.numbers := by
  simp [Table.numbers, Table.mapRecords, Function.comp_def]

/-- Whether a table rises depends on its numbers alone. -/
theorem Table.rising_congr {α β : Type} (t : Table α) (u : Table β) (h : t.numbers = u.numbers) : t.rising = u.rising := by
  induction t generalizing u with
  | nil => cases u with
    | nil => rfl
    | cons _ _ => simp [Table.numbers] at h
  | cons p t ih =>
    cases u with
    | nil => simp [Table.numbers] at h
    | cons q u =>
      obtain ⟨i, x⟩ := p
      obtain ⟨j, y⟩ := q
      simp only [Table.numbers, List.map_cons, List.cons.injEq] at h ih
      obtain ⟨rfl, hn⟩ := h
      cases t with
      | nil => cases u with
        | nil => rfl
        | cons _ _ => simp at hn
      | cons p' t => cases u with
        | nil => simp at hn
        | cons q' u =>
          obtain ⟨i', x'⟩ := p'
          obtain ⟨j', y'⟩ := q'
          have := ih ((j', y') :: u) hn
          simp only [List.map_cons, List.cons.injEq] at hn
          obtain ⟨rfl, _⟩ := hn
          simp only [Table.rising, this]

@[simp] theorem Table.rising_modify {α : Type} (t : Table α) (k : Nat) (f : α → α) : (t.modify k f).rising = t.rising :=
  Table.rising_congr _ _ (Table.numbers_modify t k f)

@[simp] theorem Table.rising_mapRecords {α β : Type} (f : Nat → α → β) (t : Table α) : (t.mapRecords f).rising = t.rising :=
  Table.rising_congr _ _ (Table.numbers_mapRecords f t)

theorem Table.mem_put {α : Type} (t : Table α) (k : Nat) (v : α) (p : Nat × α) (h : p ∈ Table.put k v t) :
    p = (k, v) ∨ p ∈ t := by
  induction t with
  | nil => simp [Table.put] at h; exact Or.inl h
  | cons q t ih =>
    obtain ⟨i, x⟩ := q
    simp only [Table.put] at h
    split at h
    · rcases List.mem_cons.1 h with h | h
      · exact Or.inl h
      · exact Or.inr h
    · split at h
      · rcases List.mem_cons.1 h with h | h
        · exact Or.inl h
        · exact Or.inr (List.mem_cons_of_mem _ h)
      · rcases List.mem_cons.1 h with h | h
        · exact Or.inr (by rw [h]; simp)
        · rcases ih h with h | h
          · exact Or.inl h
          · exact Or.inr (List.mem_cons_of_mem _ h)

theorem Table.rising_put {α : Type} (t : Table α) (k : Nat) (v : α) (h : t.rising = true) : (Table.put k v t).rising = true := by
  induction t with
  | nil => rfl
  | cons q t ih =>
    obtain ⟨i, x⟩ := q
    obtain ⟨ha, hr⟩ := (Table.rising_cons i x t).1 h
    simp only [Table.put]
    split
    · rename_i hlt
      refine (Table.rising_cons _ _ _).2 ⟨?_, h⟩
      intro p hp
      rcases List.mem_cons.1 hp with rfl | hp
      · exact hlt
      · exact lt_trans hlt (ha p hp)
    · split
      · rename_i _ he
        subst he
        exact (Table.rising_cons _ _ _).2 ⟨ha, hr⟩
      · rename_i hlt hne
        refine (Table.rising_cons _ _ _).2 ⟨?_, ih hr⟩
        intro p hp
        rcases Table.mem_put _ _ _ _ hp with rfl | hp
        · simp; omega
        · exact ha p hp

theorem Table.mem_erase {α : Type} (t : Table α) (k : Nat) (p : Nat × α) (h : p ∈ Table.erase k t) : p ∈ t := by
  induction t with
  | nil => simp [Table.erase] at h
  | cons q t ih =>
    obtain ⟨i, x⟩ := q
    simp only [Table.erase] at h
    split at h
    · exact List.mem_cons_of_mem _ h
    · rcases List.mem_cons.1 h with h | h
      · rw [h]; simp
      · exact List.mem_cons_of_mem _ (ih h)

theorem Table.rising_erase {α : Type} (t : Table α) (k : Nat) (h : t.rising = true) : (Table.erase k t).rising = true := by
  induction t with
  | nil => rfl
  | cons q t ih =>
    obtain ⟨i, x⟩ := q
    obtain ⟨ha, hr⟩ := (Table.rising_cons i x t).1 h
    simp only [Table.erase]
    split
    · exact hr
    · exact (Table.rising_cons _ _ _).2 ⟨fun p hp => ha p (Table.mem_erase _ _ _ hp), ih hr⟩

/-! ### Two changes of one record -/

theorem Table.modify_modify {α : Type} (t : Table α) (k : Nat) (f g : α → α) :
    (t.modify k f).modify k g = t.modify k (fun x => g (f x)) := by
  induction t with
  | nil => rfl
  | cons p t ih =>
    obtain ⟨i, x⟩ := p
    by_cases h : i = k
    · simp [Table.modify, h]
    · simp [Table.modify, h, ih]

/-- Only the record found matters to a change of it. -/
theorem Table.modify_of_find {α : Type} (t : Table α) (k : Nat) (x : α) (f g : α → α) (h : t.find k = some x)
    (hfg : f x = g x) : t.modify k f = t.modify k g := by
  induction t with
  | nil => rfl
  | cons p t ih =>
    obtain ⟨i, y⟩ := p
    rw [Table.find_cons] at h
    by_cases hik : i = k
    · rw [if_pos hik] at h; cases h
      simp [Table.modify, hik, hfg]
    · rw [if_neg hik] at h
      simp [Table.modify, hik, ih h]

theorem Table.modify_of_not_find {α : Type} (t : Table α) (k : Nat) (f : α → α) (h : t.find k = none) : t.modify k f = t := by
  induction t with
  | nil => rfl
  | cons p t ih =>
    obtain ⟨i, y⟩ := p
    rw [Table.find_cons] at h
    by_cases hik : i = k
    · rw [if_pos hik] at h; cases h
    · rw [if_neg hik] at h
      simp [Table.modify, hik, ih h]

theorem Table.has_iff {α : Type} (t : Table α) (k : Nat) : t.has k = true ↔ ∃ x, t.find k = some x := by
  simp [Table.has, Option.isSome_iff_exists]

/-! ### Repeated actions -/

@[simp] theorem forEach_nil {α σ : Type} (f : α → σ → σ) (s : σ) : forEach [] f s = s := rfl

@[simp] theorem forEach_cons {α σ : Type} (x : α) (l : List α) (f : α → σ → σ) (s : σ) :
    forEach (x :: l) f s = forEach l f (f x s) := rfl

/-- What every action leaves as it is, a run of them leaves as it is. -/
theorem forEach_same {α σ β : Type} (g : σ → β) (f : α → σ → σ) (h : ∀ x s, g (f x s) = g s) (l : List α) (s : σ) :
    g (forEach l f s) = g s := by
  induction l generalizing s with
  | nil => rfl
  | cons x l ih => rw [forEach_cons, ih, h]

/-- What every action keeps, a run of them keeps. -/
theorem forEach_keeps {α σ : Type} (P : σ → Prop) (f : α → σ → σ) (h : ∀ x s, P s → P (f x s)) (l : List α) (s : σ)
    (hs : P s) : P (forEach l f s) := by
  induction l generalizing s with
  | nil => exact hs
  | cons x l ih => exact ih _ (h x s hs)

/-- A relation that holds from before to after each action, and is reflexive and transitive, holds across a run of them. -/
theorem forEach_rel {α σ : Type} (R : σ → σ → Prop) (hr : ∀ s, R s s) (ht : ∀ a b c, R a b → R b c → R a c)
    (f : α → σ → σ) (h : ∀ x s, R s (f x s)) (l : List α) (s : σ) : R s (forEach l f s) := by
  induction l generalizing s with
  | nil => exact hr s
  | cons x l ih => exact ht _ _ _ (h x s) (ih _)

/-! ### Sums -/

@[simp] theorem sumOf_nil {α : Type} (f : α → Nat) : sumOf f [] = 0 := rfl

@[simp] theorem sumOf_cons {α : Type} (f : α → Nat) (x : α) (l : List α) : sumOf f (x :: l) = f x + sumOf f l := rfl

@[simp] theorem sumOf_append {α : Type} (f : α → Nat) (l m : List α) : sumOf f (l ++ m) = sumOf f l + sumOf f m := by
  induction l with
  | nil => simp
  | cons x l ih => simp [ih, Nat.add_assoc]

theorem sumOf_le {α : Type} (f g : α → Nat) (l : List α) (h : ∀ x ∈ l, f x ≤ g x) : sumOf f l ≤ sumOf g l := by
  induction l with
  | nil => simp
  | cons x l ih =>
    simp only [sumOf_cons]
    exact Nat.add_le_add (h x (by simp)) (ih fun y hy => h y (by simp [hy]))

theorem sumOf_congr {α : Type} (f g : α → Nat) (l : List α) (h : ∀ x ∈ l, f x = g x) : sumOf f l = sumOf g l := by
  induction l with
  | nil => rfl
  | cons x l ih =>
    simp only [sumOf_cons]
    rw [h x (by simp), ih fun y hy => h y (by simp [hy])]

theorem sumOf_map {α β : Type} (f : β → Nat) (g : α → β) (l : List α) : sumOf f (l.map g) = sumOf (fun x => f (g x)) l := by
  induction l with
  | nil => rfl
  | cons x l ih => simp [ih]

end Sys2Proof.Machine
end

