-- ==== Sys2Proof/Laws/Frames.lean ====
section
/-! SUPPORT. What each shared operation of the blocks can change: `Within parts s t` says that the step from `s` to `t` changes
nothing of the state but the parts listed, and of the ports their event queues and event-overrun flags alone. One lemma per
operation; a proof reads off that a field stands by `(compute_within all s).bays_eq (by decide)`. -/

namespace Sys2Proof.Machine

/-- The parts of the state the blocks own. `settings` are the jitter limit, the fade interval, the stage table and the timers no
record holds. -/
inductive Part
  | control
  | bays
  | bands
  | pairs
  | levels
  | rows
  | heads
  | zones
  | fans
  | guidance
  | supply
  | fieldLoop
  | settings
deriving DecidableEq, Repr

/-- A step that changes no part but those listed, and no port but in its events. -/
structure Within (parts : List Part) (s t : State) : Prop where
  pending : t.pending = s.pending
  deckTime : t.deckTime = s.deckTime
  pins : t.pins = s.pins
  ports : PortsAgree s t
  control : Part.control ∈ parts ∨ t.control = s.control
  bays : Part.bays ∈ parts ∨ t.bays = s.bays
  bands : Part.bands ∈ parts ∨ t.bands = s.bands
  pairs : Part.pairs ∈ parts ∨ t.pairs = s.pairs
  levels : Part.levels ∈ parts ∨ t.levels = s.levels
  rows : Part.rows ∈ parts ∨ t.rows = s.rows
  heads : Part.heads ∈ parts ∨ t.heads = s.heads
  zones : Part.zones ∈ parts ∨ t.zones = s.zones
  fans : Part.fans ∈ parts ∨ t.fans = s.fans
  guidance : Part.guidance ∈ parts ∨ t.guidance = s.guidance
  supply : Part.supply ∈ parts ∨ t.supply = s.supply
  loop : Part.fieldLoop ∈ parts ∨ t.loop = s.loop
  jitter : Part.settings ∈ parts ∨ t.jitter = s.jitter
  fade : Part.settings ∈ parts ∨ t.fade = s.fade
  stageTable : Part.settings ∈ parts ∨ t.stageTable = s.stageTable
  censusMinute : Part.settings ∈ parts ∨ t.censusMinute = s.censusMinute
  censusStart : Part.settings ∈ parts ∨ t.censusStart = s.censusStart
  airMinute : Part.settings ∈ parts ∨ t.airMinute = s.airMinute

variable {parts more : List Part} {s t u : State}

theorem Within.control_eq (h : Within parts s t) (n : Part.control ∉ parts) : t.control = s.control := h.control.resolve_left n
theorem Within.bays_eq (h : Within parts s t) (n : Part.bays ∉ parts) : t.bays = s.bays := h.bays.resolve_left n
theorem Within.bands_eq (h : Within parts s t) (n : Part.bands ∉ parts) : t.bands = s.bands := h.bands.resolve_left n
theorem Within.pairs_eq (h : Within parts s t) (n : Part.pairs ∉ parts) : t.pairs = s.pairs := h.pairs.resolve_left n
theorem Within.levels_eq (h : Within parts s t) (n : Part.levels ∉ parts) : t.levels = s.levels := h.levels.resolve_left n
theorem Within.rows_eq (h : Within parts s t) (n : Part.rows ∉ parts) : t.rows = s.rows := h.rows.resolve_left n
theorem Within.heads_eq (h : Within parts s t) (n : Part.heads ∉ parts) : t.heads = s.heads := h.heads.resolve_left n
theorem Within.zones_eq (h : Within parts s t) (n : Part.zones ∉ parts) : t.zones = s.zones := h.zones.resolve_left n
theorem Within.fans_eq (h : Within parts s t) (n : Part.fans ∉ parts) : t.fans = s.fans := h.fans.resolve_left n
theorem Within.guidance_eq (h : Within parts s t) (n : Part.guidance ∉ parts) : t.guidance = s.guidance := h.guidance.resolve_left n
theorem Within.supply_eq (h : Within parts s t) (n : Part.supply ∉ parts) : t.supply = s.supply := h.supply.resolve_left n
theorem Within.loop_eq (h : Within parts s t) (n : Part.fieldLoop ∉ parts) : t.loop = s.loop := h.loop.resolve_left n
theorem Within.jitter_eq (h : Within parts s t) (n : Part.settings ∉ parts) : t.jitter = s.jitter := h.jitter.resolve_left n
theorem Within.fade_eq (h : Within parts s t) (n : Part.settings ∉ parts) : t.fade = s.fade := h.fade.resolve_left n
theorem Within.stageTable_eq (h : Within parts s t) (n : Part.settings ∉ parts) : t.stageTable = s.stageTable := h.stageTable.resolve_left n
theorem Within.censusMinute_eq (h : Within parts s t) (n : Part.settings ∉ parts) : t.censusMinute = s.censusMinute := h.censusMinute.resolve_left n
theorem Within.censusStart_eq (h : Within parts s t) (n : Part.settings ∉ parts) : t.censusStart = s.censusStart := h.censusStart.resolve_left n
theorem Within.airMinute_eq (h : Within parts s t) (n : Part.settings ∉ parts) : t.airMinute = s.airMinute := h.airMinute.resolve_left n

theorem PortsAgree.refl (s : State) : PortsAgree s s := fun _ => ⟨rfl, rfl, rfl, rfl, rfl⟩

theorem PortsAgree.trans (h : PortsAgree s t) (k : PortsAgree t u) : PortsAgree s u := fun st =>
  let ⟨a, b, c, d, e⟩ := h st
  let ⟨a', b', c', d', e'⟩ := k st
  ⟨a'.trans a, b'.trans b, c'.trans c, d'.trans d, e'.trans e⟩

theorem PortsAgree.of_eq (h : t.ports = s.ports) : PortsAgree s t := by
  intro st
  have : t.port st = s.port st := by cases st <;> simp [State.port, h]
  simp [this]

theorem Within.refl (parts : List Part) (s : State) : Within parts s s :=
  ⟨rfl, rfl, rfl, PortsAgree.refl s, .inr rfl, .inr rfl, .inr rfl, .inr rfl, .inr rfl, .inr rfl, .inr rfl, .inr rfl,
    .inr rfl, .inr rfl, .inr rfl, .inr rfl, .inr rfl, .inr rfl, .inr rfl, .inr rfl, .inr rfl, .inr rfl⟩

/-- A field of a part that stands in each of two steps, or may change, does so in both together. -/
theorem unchanged_trans {α : Type} {p : Part} {x y z : α} (h : p ∈ parts ∨ y = x) (k : p ∈ parts ∨ z = y) :
    p ∈ parts ∨ z = x := by
  rcases h with h | h
  · exact .inl h
  · exact k.imp id fun k => k.trans h

theorem Within.trans (h : Within parts s t) (k : Within parts t u) : Within parts s u :=
  ⟨k.pending.trans h.pending, k.deckTime.trans h.deckTime, k.pins.trans h.pins, h.ports.trans k.ports,
    unchanged_trans h.control k.control,
    unchanged_trans h.bays k.bays,
    unchanged_trans h.bands k.bands,
    unchanged_trans h.pairs k.pairs,
    unchanged_trans h.levels k.levels,
    unchanged_trans h.rows k.rows,
    unchanged_trans h.heads k.heads,
    unchanged_trans h.zones k.zones,
    unchanged_trans h.fans k.fans,
    unchanged_trans h.guidance k.guidance,
    unchanged_trans h.supply k.supply,
    unchanged_trans h.loop k.loop,
    unchanged_trans h.jitter k.jitter,
    unchanged_trans h.fade k.fade,
    unchanged_trans h.stageTable k.stageTable,
    unchanged_trans h.censusMinute k.censusMinute,
    unchanged_trans h.censusStart k.censusStart,
    unchanged_trans h.airMinute k.airMinute⟩

/-- A longer list of parts says less. -/
theorem Within.mono (h : Within parts s t) (hs : ∀ p ∈ parts, p ∈ more) : Within more s t :=
  ⟨h.pending, h.deckTime, h.pins, h.ports,
    h.control.imp (hs _) id,
    h.bays.imp (hs _) id,
    h.bands.imp (hs _) id,
    h.pairs.imp (hs _) id,
    h.levels.imp (hs _) id,
    h.rows.imp (hs _) id,
    h.heads.imp (hs _) id,
    h.zones.imp (hs _) id,
    h.fans.imp (hs _) id,
    h.guidance.imp (hs _) id,
    h.supply.imp (hs _) id,
    h.loop.imp (hs _) id,
    h.jitter.imp (hs _) id,
    h.fade.imp (hs _) id,
    h.stageTable.imp (hs _) id,
    h.censusMinute.imp (hs _) id,
    h.censusStart.imp (hs _) id,
    h.airMinute.imp (hs _) id⟩

/-- An action carried out for each element stays within what it stays within once. -/
theorem forEach_within {α : Type} (f : α → State → State) (h : ∀ x s, Within parts s (f x s)) (l : List α) (s : State) :
    Within parts s (forEach l f s) :=
  forEach_rel (Within parts) (Within.refl parts) (fun _ _ _ => Within.trans) f h l s

/-! ### Events and single updates -/

theorem PortsAgree.of_deliver (st : Station) (e : EventRecord) (s : State) : PortsAgree s (deliver st e s) := by
  intro x
  unfold deliver
  cases st <;> cases x <;> dsimp only <;> split <;> simp [State.port, State.setPort]

theorem deliver_within (st : Station) (e : EventRecord) (s : State) : Within [] s (deliver st e s) := by
  have h := PortsAgree.of_deliver st e s
  unfold deliver at h ⊢
  dsimp only at h ⊢
  split
  · rename_i hc; rw [if_pos hc] at h; constructor <;> simp_all
  · rename_i hc; rw [if_neg hc] at h; constructor <;> simp_all

theorem deliverMasked_within (st : Station) (e : EventRecord) (s : State) : Within [] s (deliverMasked st e s) := by
  unfold deliverMasked
  split
  · exact deliver_within st e s
  · exact .refl _ _

theorem post_within (kind : EventKind) (subject a b : Nat) (s : State) : Within [] s (post kind subject a b s) :=
  ((deliverMasked_within .supervisor _ s).trans (deliverMasked_within .lane _ _)).trans (deliverMasked_within .guidance _ _)

theorem postTo_within (st : Station) (kind : EventKind) (subject a b : Nat) (s : State) :
    Within [] s (postTo st kind subject a b s) := deliverMasked_within st _ s

theorem postRestarted_within (a b : Nat) (s : State) : Within [] s (postRestarted a b s) :=
  ((deliver_within .supervisor _ s).trans (deliver_within .lane _ _)).trans (deliver_within .guidance _ _)

theorem modBay_within (n : Nat) (f : Bay → Bay) (s : State) : Within [.bays] s (s.modBay n f) :=
  ⟨rfl, rfl, rfl, .of_eq rfl, .inr rfl, .inl (by decide), .inr rfl, .inr rfl, .inr rfl, .inr rfl, .inr rfl, .inr rfl,
    .inr rfl, .inr rfl, .inr rfl, .inr rfl, .inr rfl, .inr rfl, .inr rfl, .inr rfl, .inr rfl, .inr rfl⟩

theorem modPair_within (n : Nat) (f : RampPair → RampPair) (s : State) : Within [.pairs] s (s.modPair n f) :=
  ⟨rfl, rfl, rfl, .of_eq rfl, .inr rfl, .inr rfl, .inr rfl, .inl (by decide), .inr rfl, .inr rfl, .inr rfl, .inr rfl,
    .inr rfl, .inr rfl, .inr rfl, .inr rfl, .inr rfl, .inr rfl, .inr rfl, .inr rfl, .inr rfl, .inr rfl⟩

theorem modLevel_within (n : Nat) (f : Level → Level) (s : State) : Within [.levels] s (s.modLevel n f) :=
  ⟨rfl, rfl, rfl, .of_eq rfl, .inr rfl, .inr rfl, .inr rfl, .inr rfl, .inl (by decide), .inr rfl, .inr rfl, .inr rfl,
    .inr rfl, .inr rfl, .inr rfl, .inr rfl, .inr rfl, .inr rfl, .inr rfl, .inr rfl, .inr rfl, .inr rfl⟩

theorem modRow_within (n : Nat) (f : Row → Row) (s : State) : Within [.rows] s (s.modRow n f) :=
  ⟨rfl, rfl, rfl, .of_eq rfl, .inr rfl, .inr rfl, .inr rfl, .inr rfl, .inr rfl, .inl (by decide), .inr rfl, .inr rfl,
    .inr rfl, .inr rfl, .inr rfl, .inr rfl, .inr rfl, .inr rfl, .inr rfl, .inr rfl, .inr rfl, .inr rfl⟩

theorem modHead_within (n : Nat) (f : Head → Head) (s : State) : Within [.heads] s (s.modHead n f) :=
  ⟨rfl, rfl, rfl, .of_eq rfl, .inr rfl, .inr rfl, .inr rfl, .inr rfl, .inr rfl, .inr rfl, .inl (by decide), .inr rfl,
    .inr rfl, .inr rfl, .inr rfl, .inr rfl, .inr rfl, .inr rfl, .inr rfl, .inr rfl, .inr rfl, .inr rfl⟩

theorem modZone_within (n : Nat) (f : Zone → Zone) (s : State) : Within [.zones] s (s.modZone n f) :=
  ⟨rfl, rfl, rfl, .of_eq rfl, .inr rfl, .inr rfl, .inr rfl, .inr rfl, .inr rfl, .inr rfl, .inr rfl, .inl (by decide),
    .inr rfl, .inr rfl, .inr rfl, .inr rfl, .inr rfl, .inr rfl, .inr rfl, .inr rfl, .inr rfl, .inr rfl⟩

theorem modFan_within (n : Nat) (f : Fan → Fan) (s : State) : Within [.fans] s (s.modFan n f) :=
  ⟨rfl, rfl, rfl, .of_eq rfl, .inr rfl, .inr rfl, .inr rfl, .inr rfl, .inr rfl, .inr rfl, .inr rfl, .inr rfl, .inl (by
    decide), .inr rfl, .inr rfl, .inr rfl, .inr rfl, .inr rfl, .inr rfl, .inr rfl, .inr rfl, .inr rfl⟩

theorem setGuidance_within (g : Guidance) (s : State) : Within [.guidance] s (s.setGuidance g) :=
  ⟨rfl, rfl, rfl, .of_eq rfl, .inr rfl, .inr rfl, .inr rfl, .inr rfl, .inr rfl, .inr rfl, .inr rfl, .inr rfl, .inr
    rfl, .inl (by decide), .inr rfl, .inr rfl, .inr rfl, .inr rfl, .inr rfl, .inr rfl, .inr rfl, .inr rfl⟩

theorem setSupply_within (g : Supply) (s : State) : Within [.supply] s (s.setSupply g) :=
  ⟨rfl, rfl, rfl, .of_eq rfl, .inr rfl, .inr rfl, .inr rfl, .inr rfl, .inr rfl, .inr rfl, .inr rfl, .inr rfl, .inr
    rfl, .inr rfl, .inl (by decide), .inr rfl, .inr rfl, .inr rfl, .inr rfl, .inr rfl, .inr rfl, .inr rfl⟩

theorem setLoop_within (g : FieldLoop) (s : State) : Within [.fieldLoop] s (s.setLoop g) :=
  ⟨rfl, rfl, rfl, .of_eq rfl, .inr rfl, .inr rfl, .inr rfl, .inr rfl, .inr rfl, .inr rfl, .inr rfl, .inr rfl, .inr
    rfl, .inr rfl, .inr rfl, .inl (by decide), .inr rfl, .inr rfl, .inr rfl, .inr rfl, .inr rfl, .inr rfl⟩

theorem setControl_within (g : Control) (s : State) : Within [.control] s (s.setControl g) :=
  ⟨rfl, rfl, rfl, .of_eq rfl, .inl (by decide), .inr rfl, .inr rfl, .inr rfl, .inr rfl, .inr rfl, .inr rfl, .inr rfl,
    .inr rfl, .inr rfl, .inr rfl, .inr rfl, .inr rfl, .inr rfl, .inr rfl, .inr rfl, .inr rfl, .inr rfl⟩

/-! ### Loads (chapters 4, 6 and 7): rows, fans and the supply figures -/

theorem rowRise_within (n : Nat) (s : State) : Within [.rows] s (rowRise n s) := by
  unfold rowRise
  split
  · exact .refl _ _
  · dsimp only
    split <;> exact modRow_within _ _ _

theorem fanRise_within (ch speed : Nat) (s : State) : Within [.fans] s (fanRise ch speed s) := by
  unfold fanRise
  split
  · exact .refl _ _
  · split <;> exact modFan_within _ _ _

theorem fanStart_within (ch : Nat) (s : State) : Within [.fans] s (fanStart ch s) := by
  unfold fanStart
  split
  · exact fanRise_within _ _ _
  · exact .refl _ _

theorem fanAccelerate_within (ch : Nat) (s : State) : Within [.fans] s (fanAccelerate ch s) := by
  unfold fanAccelerate
  split
  · exact fanRise_within _ _ _
  · exact .refl _ _

theorem grantRow_within (n g : Nat) (s : State) : Within [.rows] s (grantRow n g s) := modRow_within _ _ _

theorem grantFan_within (ch g : Nat) (s : State) : Within [.fans] s (grantFan ch g s) := by
  have hm := fun (h : Fan → Fan) (t : State) => modFan_within ch h t
  have hs := hm (fun f => { f with granted := g }) s
  unfold grantFan
  split
  · exact .refl _ _
  · dsimp only
    split
    · split
      · split
        · exact hs
        · exact hs.trans (fanStart_within _ _)
      · exact hs.trans (hm _ _)
    · split
      · exact hs
      · split <;> exact hs.trans (hm _ _)
    · split
      · exact hs.trans (hm _ _)
      · split
        · exact hs
        · exact hs.trans (hm _ _)
    · split
      · exact hs.trans (hm _ _)
      · split
        · exact hs.trans (hm _ _)
        · exact hs
    all_goals exact hs

theorem retryLoad_within (l : Load) (s : State) : Within [.rows, .fans] s (retryLoad l s) := by
  unfold retryLoad
  split
  · exact (rowRise_within _ _).mono (by decide)
  · split
    · split
      · exact (fanStart_within _ _).mono (by decide)
      · split
        · exact (fanAccelerate_within _ _).mono (by decide)
        · exact .refl _ _
    · exact .refl _ _

theorem retryHeld_within (s : State) : Within [.rows, .fans] s (retryHeld s) := forEach_within _ retryLoad_within _ s

theorem retryOnDecrease_within (before s : State) : Within [.rows, .fans] s (retryOnDecrease before s) := by
  unfold retryOnDecrease
  split
  · exact retryHeld_within s
  · exact .refl _ _

theorem handGrant_within (all : Bool) (x : Load × Nat) (s : State) : Within [.rows, .fans] s (handGrant all x s) := by
  unfold handGrant
  split
  · split
    · exact (grantFan_within _ _ _).mono (by decide)
    · exact (grantRow_within _ _ _).mono (by decide)
  · exact .refl _ _

theorem recordDivision_within (d : Division) (s : State) : Within [.supply] s (recordDivision d s) := setSupply_within _ s

theorem judgeShort_within (s : State) : Within [.supply] s (judgeShort s) := by
  unfold judgeShort
  dsimp only
  split
  · exact (setSupply_within _ s).trans ((post_within _ _ _ _ _).mono (by decide))
  · split
    · exact (setSupply_within _ s).trans ((post_within _ _ _ _ _).mono (by decide))
    · exact setSupply_within _ s

theorem compute_within (all : Bool) (s : State) : Within [.rows, .fans, .supply] s (compute all s) :=
  ((((recordDivision_within _ s).mono (by decide)).trans
    ((forEach_within _ (handGrant_within all) _ _).mono (by decide))).trans
    ((retryHeld_within _).mono (by decide))).trans ((judgeShort_within _).mono (by decide))

theorem handDemands_within (s : State) : Within [.fans] s (handDemands s) :=
  ⟨rfl, rfl, rfl, .of_eq rfl, .inr rfl, .inr rfl, .inr rfl, .inr rfl, .inr rfl, .inr rfl, .inr rfl, .inr rfl, .inl (by
    decide), .inr rfl, .inr rfl, .inr rfl, .inr rfl, .inr rfl, .inr rfl, .inr rfl, .inr rfl, .inr rfl⟩

theorem settle_within (before s : State) : Within [.rows, .fans, .supply] s (settle before s) := by
  unfold settle
  dsimp only
  split
  · split
    · exact ((handDemands_within s).mono (by decide)).trans (compute_within false _)
    · exact (handDemands_within s).mono (by decide)
  · exact .refl _ _

/-- In CONFIG mode nothing is handed and nothing computed (R159). -/
theorem settle_config (before s : State) (h : s.inRun = false) : settle before s = s := by simp [settle, h]

theorem leaveLoads_within (before s : State) : Within [.rows, .fans, .supply] s (leaveLoads before s) :=
  ((retryOnDecrease_within before s).mono (by decide)).trans (settle_within _ _)

theorem fanToFault_within (ch : Nat) (s : State) : Within [.fans] s (fanToFault ch s) := by
  unfold fanToFault
  split
  · exact .refl _ _
  · exact (modFan_within _ _ s).trans ((post_within _ _ _ _ _).mono (by decide))

theorem beginReversal_within (ch : Nat) (s : State) : Within [.fans] s (beginReversal ch s) := by
  unfold beginReversal
  split
  · exact .refl _ _
  · split
    · split <;> exact modFan_within _ _ s
    · exact .refl _ _

/-! ### Rows triggered, movements, census (chapters 2 and 4) -/

theorem levelCheckFrom_within (was level : Nat) (s : State) : Within [] s (levelCheckFrom was level s) := by
  unfold levelCheckFrom
  dsimp only
  split
  · exact post_within _ _ _ _ s
  · split
    · exact post_within _ _ _ _ s
    · exact .refl _ _

theorem levelCheck_within (before : State) (level : Nat) (s : State) : Within [] s (levelCheck before level s) :=
  levelCheckFrom_within _ _ s

theorem triggerRow_within (n : Nat) (s : State) : Within [.rows] s (triggerRow n s) := modRow_within _ _ s

theorem triggerRows_within (rows : List Nat) (s : State) : Within [.rows] s (triggerRows rows s) :=
  forEach_within _ triggerRow_within rows s

theorem movement_within (level : Nat) (s : State) : Within [.levels] s (movement level s) := modLevel_within _ _ s

theorem updateDrift_within (level : Nat) (s : State) : Within [.levels] s (updateDrift level s) := modLevel_within _ _ s

theorem driftExpire_within (level : Nat) (s : State) : Within [.levels] s (driftExpire level s) := by
  unfold driftExpire
  split
  · exact .refl _ _
  · split
    · exact (modLevel_within _ _ s).trans ((post_within _ _ _ _ _).mono (by decide))
    · exact .refl _ _

theorem censusCheck_within (level : Nat) (s : State) : Within [.levels] s (censusCheck level s) := by
  unfold censusCheck
  split
  · exact .refl _ _
  · split
    · exact ((modLevel_within _ _ s).trans ((post_within _ _ _ _ _).mono (by decide))).trans (updateDrift_within _ _)
    · exact .refl _ _

theorem setPending_within (level : Nat) (s : State) : Within [.levels] s (setPending level s) := modLevel_within _ _ s

theorem afterPresentChange_within (level : Nat) (s : State) : Within [.levels] s (afterPresentChange level s) :=
  (updateDrift_within level s).trans (censusCheck_within level _)

theorem countCrossing_within (pair level : Nat) (up : Bool) (s : State) :
    Within [.levels] s (countCrossing pair level up s) := by
  unfold countCrossing
  split
  · exact .refl _ _
  · split <;> split
    · exact modLevel_within _ _ s
    · exact (post_within _ _ _ _ s).mono (by decide)
    · exact modLevel_within _ _ s
    · exact (post_within _ _ _ _ s).mono (by decide)

theorem moveCounts_within (pair : Nat) (c : PairCfg) (down : Bool) (s : State) :
    Within [.levels] s (moveCounts pair c down s) := by
  unfold moveCounts
  dsimp only
  split
  · exact countCrossing_within _ _ _ _
  · exact (countCrossing_within _ _ _ _).trans (countCrossing_within _ _ _ _)

theorem crossing_within (pair : Nat) (c : PairCfg) (down : Bool) (s : State) :
    Within [.levels, .rows] s (crossing pair c down s) :=
  ((((moveCounts_within pair c down s).trans (forEach_within _ movement_within _ _)).mono (by decide)).trans
    ((triggerRows_within _ _).mono (by decide))).trans ((forEach_within _ updateDrift_within _ _).mono (by decide))

theorem returnToIdle_within (pair : Nat) (s : State) : Within [.pairs, .levels, .rows] s (returnToIdle pair s) := by
  unfold returnToIdle
  split
  · exact .refl _ _
  · dsimp only
    refine Within.trans ?_ ((forEach_within _ censusCheck_within _ _).mono (by decide))
    split
    · exact (modPair_within _ _ s).mono (by decide)
    · split
      · exact ((modPair_within _ _ s).mono (by decide)).trans ((crossing_within _ _ _ _).mono (by decide))
      · split
        · exact ((modPair_within _ _ s).mono (by decide)).trans ((crossing_within _ _ _ _).mono (by decide))
        · exact (modPair_within _ _ s).mono (by decide)

theorem decoderStep_within (pair : Nat) (a b : Bool) (s : State) :
    Within [.pairs, .levels, .rows] s (decoderStep pair a b s) := by
  unfold decoderStep
  split
  · exact .refl _ _
  · dsimp only
    have take := fun (f : RampPair → RampPair) =>
      (modPair_within pair f s).mono (more := [.pairs, .levels, .rows]) (by decide)
    split
    · refine Within.trans ?_ (returnToIdle_within _ _)
      split
      · exact take _
      · exact take _
      · exact (take _).trans ((post_within _ _ _ _ _).mono (by decide))
    · split
      · exact take _
      · exact take _
      · exact (take _).trans ((post_within _ _ _ _ _).mono (by decide))

theorem settleExpire_within (pair : Nat) (s : State) : Within [.pairs, .levels, .rows] s (settleExpire pair s) := by
  unfold settleExpire
  split
  · exact .refl _ _
  · split
    · dsimp only
      have first := fun (f : RampPair → RampPair) =>
        (modPair_within pair f s).mono (more := [.pairs, .levels, .rows]) (by decide)
      split
      · exact first _
      · exact (first _).trans (decoderStep_within _ _ _ _)
    · exact .refl _ _

/-! ### Allocation (chapter 3) -/

theorem setAdmin_within (bay : Nat) (a : Admin) (s : State) : Within [.bays] s (setAdmin bay a s) := by
  unfold setAdmin
  split
  · exact .refl _ _
  · exact (modBay_within _ _ s).trans ((levelCheck_within _ _ _).mono (by decide))

theorem removeRequest_within (t : Nat) (s : State) : Within [.guidance] s (removeRequest t s) := setGuidance_within _ s

theorem removeHold_within (t : Nat) (s : State) : Within [.guidance] s (removeHold t s) := setGuidance_within _ s

theorem serve_within (own : Option Nat) (r : Request) (bay : Nat) (b : Bay) (s : State) :
    Within [.bays, .levels, .rows, .guidance] s (serve own r bay b s) := by
  unfold serve
  dsimp only
  refine Within.trans ?_ ((triggerRows_within _ _).mono (by decide))
  refine Within.trans ?_ ((movement_within _ _).mono (by decide))
  have first := fun (g : Guidance) =>
    ((setAdmin_within bay (.held r.ticket) s).mono (more := [.bays, .levels, .rows, .guidance]) (by decide)).trans
      ((setGuidance_within g _).mono (by decide))
  split
  · exact first _
  · exact (first _).trans ((postTo_within _ _ _ _ _ _).mono (by decide))

theorem passOver_within (own : Option Nat) (l : List Request) (s : State) :
    Within [.bays, .levels, .rows, .guidance] s (passOver own l s) := by
  induction l generalizing s with
  | nil => exact .refl _ _
  | cons r rest ih =>
    unfold passOver
    split
    · split
      · exact ih s
      · exact (serve_within _ _ _ _ s).trans (ih _)
    · exact .refl _ _

theorem allocationPassFor_within (own : Option Nat) (s : State) :
    Within [.bays, .levels, .rows, .guidance] s (allocationPassFor own s) := passOver_within own _ s

theorem allocationPass_within (s : State) : Within [.bays, .levels, .rows, .guidance] s (allocationPass s) :=
  allocationPassFor_within none s

/-- With an empty queue a pass does nothing (R55). -/
theorem allocationPass_empty (s : State) (h : s.guidance.queue = []) : allocationPass s = s := by
  simp [allocationPass, allocationPassFor, h, passOver]

theorem endHold_within (h : Hold) (after : Admin) (kind : EventKind) (a b : Nat) (s : State) :
    Within [.bays, .guidance] s (endHold h after kind a b s) :=
  (((removeHold_within _ s).mono (by decide)).trans ((setAdmin_within _ _ _).mono (by decide))).trans
    ((postTo_within _ _ _ _ _ _).mono (by decide))

theorem lapseHold_within (h : Hold) (after : Admin) (reason : Nat) (s : State) :
    Within [.bays, .guidance] s (lapseHold h after reason s) := endHold_within _ _ _ _ _ s

theorem takeArrival_within (bay : Nat) (b : Bay) (wasVacant : Bool) (s : State) :
    Within [.bays, .levels, .rows, .guidance] s (takeArrival bay b wasVacant s) := by
  have met := fun (h : Hold) (x y : Nat) =>
    ((endHold_within h .opened .holdMet x y s).mono (more := [.bays, .levels, .rows, .guidance]) (by decide)).trans
      (allocationPass_within _)
  unfold takeArrival
  split
  · split
    · exact met _ _ _
    · exact .refl _ _
  · split
    · split
      · exact met _ _ _
      · exact .refl _ _
    · exact .refl _ _
  · exact .refl _ _
  · exact .refl _ _

theorem waitExpire_within (t : Nat) (s : State) : Within [.guidance] s (waitExpire t s) := by
  unfold waitExpire
  split
  · split
    · exact (removeRequest_within _ s).trans ((postTo_within _ _ _ _ _ _).mono (by decide))
    · exact .refl _ _
  · exact .refl _ _

theorem holdExpire_within (t : Nat) (s : State) : Within [.bays, .levels, .rows, .guidance] s (holdExpire t s) := by
  unfold holdExpire
  split
  · split
    · exact ((lapseHold_within _ _ _ s).mono (by decide)).trans (allocationPass_within _)
    · exact .refl _ _
  · exact .refl _ _

theorem emptyGuidance_within (s : State) : Within [.bays, .guidance] s (emptyGuidance s) :=
  ((forEach_within (parts := [.guidance]) _
      (fun _ s => (removeRequest_within _ s).trans ((postTo_within _ _ _ _ _ _).mono (by decide))) _ s).mono
    (by decide)).trans (forEach_within _ (fun _ s => lapseHold_within _ _ _ s) _ _)

/-! ### Bays (chapter 1) -/

theorem postBayEvents_within (n : Nat) (b : Bay) (old new : Sensed) (cause : Nat) (s : State) :
    Within [] s (postBayEvents n b old new cause s) := by
  unfold postBayEvents
  dsimp only
  split
  · split
    · exact (post_within _ _ _ _ s).trans (post_within _ _ _ _ _)
    · exact post_within _ _ _ _ s
  · split
    · exact post_within _ _ _ _ s
    · exact .refl _ _
  · exact post_within _ _ _ _ s

theorem censusOfChange_within (level : Nat) (old new : Sensed) (s : State) :
    Within [.levels] s (censusOfChange level old new s) := by
  unfold censusOfChange
  dsimp only
  split <;> split
  · exact (movement_within _ s).trans (afterPresentChange_within _ _)
  · exact afterPresentChange_within _ _
  · exact movement_within _ s
  · exact .refl _ _

theorem allocationOfChange_within (n : Nat) (b : Bay) (old new : Sensed) (s : State) :
    Within [.bays, .levels, .rows, .guidance] s (allocationOfChange n b old new s) := by
  unfold allocationOfChange
  split
  · exact takeArrival_within _ _ _ s
  · split
    · exact allocationPass_within s
    · exact .refl _ _
  · exact .refl _ _

/-- A change of sensed state reaches the bays, the levels, the rows, the allocation unit and, through the computation it calls
for, the loads (R17). -/
theorem senseChange_within (n : Nat) (new : Sensed) (cause : Nat) (s : State) :
    Within [.bays, .levels, .rows, .fans, .guidance, .supply] s (senseChange n new cause s) := by
  unfold senseChange
  split
  · exact .refl _ _
  · dsimp only
    refine Within.trans ?_ ((settle_within _ _).mono (by decide))
    refine Within.trans ?_ ((allocationOfChange_within _ _ _ _ _).mono (by decide))
    refine Within.trans ?_ ((censusOfChange_within _ _ _ _).mono (by decide))
    refine Within.trans ?_ ((triggerRow_within _ _).mono (by decide))
    refine Within.trans ?_ ((levelCheck_within _ _ _).mono (by decide))
    refine Within.trans ?_ ((postBayEvents_within _ _ _ _ _ _).mono (by decide))
    exact (modBay_within _ _ s).mono (by decide)

theorem senseChangeIf_within (n : Nat) (old new : Sensed) (cause : Nat) (s : State) :
    Within [.bays, .levels, .rows, .fans, .guidance, .supply] s (senseChangeIf n old new cause s) := by
  unfold senseChangeIf
  split
  · exact .refl _ _
  · exact senseChange_within _ _ _ s

theorem learningSample_within (n : Nat) (b : Bay) (ref c : Nat) (s : State) :
    Within [.bays, .levels, .rows, .fans, .guidance, .supply] s (learningSample n b ref c s) := by
  unfold learningSample
  split
  · exact (modBay_within _ _ s).mono (by decide)
  · exact ((modBay_within _ _ s).mono (by decide)).trans (senseChangeIf_within _ _ _ _ _)

theorem modBaysOf_within (node : Nat) (f : Bay → Bay) (s : State) : Within [.bays] s (modBaysOf node f s) :=
  ⟨rfl, rfl, rfl, .of_eq rfl, .inr rfl, .inl (by decide), .inr rfl, .inr rfl, .inr rfl, .inr rfl, .inr rfl, .inr rfl,
    .inr rfl, .inr rfl, .inr rfl, .inr rfl, .inr rfl, .inr rfl, .inr rfl, .inr rfl, .inr rfl, .inr rfl⟩

theorem makePending_within (node : Nat) (p : PendingBand) (s : State) : Within [.fieldLoop] s (makePending node p s) :=
  setLoop_within _ s

theorem requestBandChange_within (node : Nat) (s : State) : Within [.bays, .fieldLoop] s (requestBandChange node s) := by
  unfold requestBandChange
  dsimp only
  refine Within.trans ?_ ((modBaysOf_within _ _ _).mono (by decide))
  split
  · exact (post_within _ _ _ _ s).mono (by decide)
  · split
    · exact (makePending_within _ _ s).mono (by decide)
    · exact (post_within _ _ _ _ s).mono (by decide)

theorem bands_within (t : Table BandRecord) (s : State) : Within [.bands] s { s with bands := t } :=
  ⟨rfl, rfl, rfl, .of_eq rfl, .inr rfl, .inr rfl, .inl (by decide), .inr rfl, .inr rfl, .inr rfl, .inr rfl, .inr rfl,
    .inr rfl, .inr rfl, .inr rfl, .inr rfl, .inr rfl, .inr rfl, .inr rfl, .inr rfl, .inr rfl, .inr rfl⟩

theorem acknowledgeBand_within (node : Nat) (p : PendingBand) (s : State) :
    Within [.bays, .bands] s (acknowledgeBand node p s) := by
  unfold acknowledgeBand
  dsimp only
  split
  · exact (((bands_within _ s).mono (by decide)).trans ((modBaysOf_within _ _ _).mono (by decide))).trans
      ((post_within _ _ _ _ _).mono (by decide))
  · exact ((bands_within _ s).mono (by decide)).trans ((modBaysOf_within _ _ _).mono (by decide))

theorem invalidSample_within (n : Nat) (b : Bay) (s : State) :
    Within [.bays, .levels, .rows, .fans, .guidance, .supply] s (invalidSample n b s) := by
  unfold invalidSample
  dsimp only
  split
  · exact ((modBay_within _ _ s).mono (by decide)).trans (senseChange_within _ _ _ _)
  · exact (modBay_within _ _ s).mono (by decide)

theorem classifiedSample_within (n : Nat) (b : Bay) (c : Nat) (s : State) :
    Within [.bays, .levels, .rows, .fans, .guidance, .supply, .fieldLoop] s (classifiedSample n b c s) := by
  have first := fun (f : Bay → Bay) =>
    (modBay_within n f s).mono (more := [.bays, .levels, .rows, .fans, .guidance, .supply, .fieldLoop]) (by decide)
  unfold classifiedSample
  dsimp only
  split
  · exact (first _).trans ((senseChange_within _ _ _ _).mono (by decide))
  · split
    · exact (first _).trans ((requestBandChange_within _ _).mono (by decide))
    · exact first _

theorem baySample_within (n : Nat) (entry : Option Nat) (s : State) :
    Within [.bays, .levels, .rows, .fans, .guidance, .supply, .fieldLoop] s (baySample n entry s) := by
  unfold baySample
  split
  · exact .refl _ _
  · split
    · split
      · exact (learningSample_within _ _ _ _ s).mono (by decide)
      · exact classifiedSample_within _ _ _ s
    · exact (invalidSample_within _ _ s).mono (by decide)

theorem takeSamples_within (node ch : Nat) (l : List (Option Nat)) (s : State) :
    Within [.bays, .levels, .rows, .fans, .guidance, .supply, .fieldLoop] s (takeSamples node ch l s) := by
  induction l generalizing ch s with
  | nil => exact .refl _ _
  | cons e rest ih =>
    unfold takeSamples
    dsimp only
    split
    · exact (baySample_within _ _ s).trans (ih _ _)
    · exact ih _ _

theorem bayNodeFault_within (n : Nat) (s : State) :
    Within [.bays, .levels, .rows, .fans, .guidance, .supply] s (bayNodeFault n s) := by
  unfold bayNodeFault
  split
  · exact .refl _ _
  · exact ((modBay_within _ _ s).mono (by decide)).trans (senseChangeIf_within _ _ _ _ _)

theorem nodeFaultBays_within (node : Nat) (s : State) :
    Within [.bays, .levels, .rows, .fans, .guidance, .supply] s (nodeFaultBays node s) :=
  forEach_within _ bayNodeFault_within _ s

/-! ### Air quality (chapter 5) -/

theorem changeStage_within (zone new : Nat) (s : State) :
    Within [.bays, .levels, .rows, .zones, .guidance] s (changeStage zone new s) := by
  unfold changeStage
  split
  · exact .refl _ _
  · dsimp only
    have first := fun (old : Nat) =>
      (((modZone_within zone (fun z => { z with stage := new }) s).mono
        (more := [.bays, .levels, .rows, .zones, .guidance]) (by decide)).trans
        ((post_within .stageChanged zone new old _).mono (by decide))).trans
        ((forEach_within _ (levelCheck_within s) (zoneLevels s zone) _).mono (by decide))
    split
    · exact (first _).trans ((allocationPass_within _).mono (by decide))
    · exact first _

theorem evaluateZone_within (zone : Nat) (s : State) :
    Within [.bays, .levels, .rows, .zones, .guidance] s (evaluateZone zone s) := by
  have first := fun (f : Zone → Zone) =>
    (modZone_within zone f s).mono (more := [.bays, .levels, .rows, .zones, .guidance]) (by decide)
  unfold evaluateZone
  split
  · exact .refl _ _
  · split
    · exact .refl _ _
    · split
      · exact (first _).trans (changeStage_within _ _ _)
      · split
        · split
          · exact first _
          · split
            · exact .refl _ _
            · exact first _
        · exact .refl _ _

theorem dwellExpire_within (zone : Nat) (s : State) :
    Within [.bays, .levels, .rows, .zones, .guidance] s (dwellExpire zone s) := by
  unfold dwellExpire
  split
  · exact .refl _ _
  · split
    · exact (((modZone_within _ _ s).mono (by decide)).trans (changeStage_within _ _ _)).trans (evaluateZone_within _ _)
    · exact .refl _ _

theorem refreshZone_within (zone : Nat) (s : State) : Within [.zones] s (refreshZone zone s) := by
  unfold refreshZone
  split
  · exact .refl _ _
  · dsimp only
    split
    · split
      · exact .refl _ _
      · exact (modZone_within _ _ s).trans ((post_within _ _ _ _ _).mono (by decide))
    · refine Within.trans ?_ (modZone_within _ _ _)
      split
      · exact (modZone_within _ _ s).trans ((post_within _ _ _ _ _).mono (by decide))
      · exact .refl _ _

theorem accumulate_within (zone : Nat) (s : State) : Within [.zones] s (accumulate zone s) := modZone_within _ _ s

theorem postHeadState_within (head : Nat) (old new : HeadHealth) (s : State) :
    Within [] s (postHeadState head old new s) := by
  unfold postHeadState
  split
  · exact .refl _ _
  · exact post_within _ _ _ _ s

theorem gasReply_within (head : Nat) (r : RawReading) (s : State) :
    Within [.bays, .levels, .rows, .heads, .zones, .fans, .guidance, .supply] s (gasReply head r s) := by
  unfold gasReply
  split
  · exact .refl _ _
  · dsimp only
    refine Within.trans ?_ ((settle_within _ _).mono (by decide))
    refine Within.trans ?_ ((evaluateZone_within _ _).mono (by decide))
    have first := fun (f : Head → Head) (old new : HeadHealth) (zone : Nat) =>
      (((modHead_within head f s).mono (more := [.bays, .levels, .rows, .heads, .zones, .fans, .guidance, .supply])
        (by decide)).trans ((postHeadState_within head old new _).mono (by decide))).trans
        ((refreshZone_within zone _).mono (by decide))
    split
    · exact (first _ _ _ _).trans ((accumulate_within _ _).mono (by decide))
    · exact first _ _ _ _

theorem headNodeChange_within (head : Nat) (node : NodeHealth) (s : State) :
    Within [.bays, .levels, .rows, .heads, .zones, .fans, .guidance, .supply] s (headNodeChange head node s) := by
  unfold headNodeChange
  split
  · exact .refl _ _
  · dsimp only
    split
    · exact .refl _ _
    · refine Within.trans ?_ ((settle_within _ _).mono (by decide))
      refine Within.trans ?_ ((evaluateZone_within _ _).mono (by decide))
      exact (((modHead_within _ _ s).mono (by decide)).trans ((postHeadState_within _ _ _ _).mono (by decide))).trans
        ((refreshZone_within _ _).mono (by decide))

theorem overrideExpire_within (zone : Nat) (s : State) : Within [.zones] s (overrideExpire zone s) := by
  unfold overrideExpire
  split
  · exact .refl _ _
  · split
    · exact .refl _ _
    · split
      · exact (modZone_within _ _ s).trans ((post_within _ _ _ _ _).mono (by decide))
      · exact .refl _ _

/-! ### The field loop (chapter 8) -/

theorem startTransaction_within (s : State) : Within [.fieldLoop] s (startTransaction s) := by
  unfold startTransaction
  split
  · exact setLoop_within _ s
  · exact .refl _ _

theorem postNodeState_within (address : Nat) (old new : HealthRecord) (outcome : FieldOutcome) (s : State) :
    Within [] s (postNodeState address old new outcome s) := by
  unfold postNodeState
  split
  · exact post_within _ _ _ _ s
  · split
    · exact post_within _ _ _ _ s
    · exact .refl _ _

theorem handHealth_within (address : Nat) (old new : NodeHealth) (before s : State) :
    Within [.bays, .levels, .rows, .heads, .zones, .fans, .guidance, .supply] s (handHealth address old new before s) := by
  unfold handHealth
  split
  · exact .refl _ _
  · split
    · split
      · exact (nodeFaultBays_within _ s).mono (by decide)
      · exact .refl _ _
    · split
      · split
        · exact .refl _ _
        · exact headNodeChange_within _ _ s
      · split
        · split
          · exact ((retryOnDecrease_within _ s).mono (by decide)).trans ((settle_within _ _).mono (by decide))
          · exact .refl _ _
        · exact .refl _ _

theorem recordOutcome_within (address : Nat) (outcome : FieldOutcome) (s : State) :
    Within [.bays, .levels, .rows, .heads, .zones, .fans, .guidance, .supply, .fieldLoop] s
      (recordOutcome address outcome s) :=
  (((setLoop_within _ s).mono (by decide)).trans ((postNodeState_within _ _ _ _ _).mono (by decide))).trans
    ((handHealth_within _ _ _ _ _).mono (by decide))

theorem bandReply_within (node sent : Nat) (bytes : List Byte) (s : State) :
    Within [.bays, .bands, .fieldLoop] s (bandReply node sent bytes s) := by
  unfold bandReply
  split
  · exact .refl _ _
  · split
    · exact ((setLoop_within _ s).mono (by decide)).trans ((acknowledgeBand_within _ _ _).mono (by decide))
    · exact .refl _ _

/-- The parts a transaction of the field loop can reach: all but the mode controller, the ramp pairs and the settings. -/
abbrev fieldParts : List Part :=
  [.bays, .bands, .levels, .rows, .heads, .zones, .fans, .guidance, .supply, .fieldLoop]

theorem deliverReply_within (t : Transaction) (bytes : List Byte) (s : State) :
    Within fieldParts s (deliverReply t bytes s) := by
  unfold deliverReply
  split
  · exact (takeSamples_within _ _ _ s).mono (by decide)
  · exact (bandReply_within _ _ _ s).mono (by decide)
  · exact (gasReply_within _ _ s).mono (by decide)
  · exact .refl _ _
  · exact .refl _ _

theorem endTransaction_within (t : Transaction) (chars : List FieldChar) (s : State) :
    Within fieldParts s (endTransaction t chars s) := by
  unfold endTransaction
  dsimp only
  refine Within.trans ?_ ((startTransaction_within _).mono (by decide))
  refine Within.trans ?_ ((setLoop_within _ _).mono (by decide))
  have first := fun (l : FieldLoop) (o : FieldOutcome) =>
    ((setLoop_within l s).mono (more := fieldParts) (by decide)).trans
      ((recordOutcome_within t.address o _).mono (by decide))
  split
  · exact (first _ _).trans (deliverReply_within _ _ _)
  · exact first _ _

theorem endDrain_within (s : State) : Within [.fieldLoop] s (endDrain s) :=
  (setLoop_within _ s).trans (startTransaction_within _)

theorem finishTransaction_within (chars : List FieldChar) (s : State) :
    Within fieldParts s (finishTransaction chars s) := by
  unfold finishTransaction
  split
  · exact .refl _ _
  · split
    · exact endTransaction_within _ _ s
    · exact (endDrain_within s).mono (by decide)

/-! ### Taking a configuration (chapter 10) -/

theorem commitTotals_within (before s : State) : Within [] s (commitTotals before s) :=
  forEach_within _ (levelCheck_within before) _ s

theorem commitCensus_within (s : State) : Within [.levels] s (commitCensus s) :=
  ((forEach_within (parts := [.levels]) _ (fun n s => (updateDrift_within n s).trans (driftExpire_within n _)) _ s).trans
    (forEach_within _ setPending_within _ _)).trans (forEach_within _ censusCheck_within _ _)

theorem commitAir_within (s : State) : Within [.bays, .levels, .rows, .zones, .guidance] s (commitAir s) :=
  forEach_within _
    (fun n s => ((refreshZone_within n s).mono (by decide)).trans (evaluateZone_within n _)) _ s

theorem commitNewFan_within (ch : Nat) (s : State) : Within [.fans] s (commitNewFan ch s) := by
  unfold commitNewFan
  dsimp only
  split
  · exact (modFan_within _ _ s).trans (fanToFault_within _ _)
  · exact modFan_within _ _ s

theorem commitFans_within (before s : State) : Within [.fans] s (commitFans before s) :=
  ((forEach_within _ commitNewFan_within _ s).trans (handDemands_within _)).trans
    (forEach_within _ beginReversal_within _ _)

theorem commitBands_within (s : State) : Within [.fieldLoop] s (commitBands s) :=
  forEach_within _ (fun a s => makePending_within a _ s) _ s

theorem commitLoop_within (list : List Nat) (s : State) : Within [.fieldLoop] s (commitLoop list s) :=
  (setLoop_within _ s).trans (startTransaction_within _)

theorem freezeRows_within (s : State) : Within [.rows] s (freezeRows s) :=
  ⟨rfl, rfl, rfl, .of_eq rfl, .inr rfl, .inr rfl, .inr rfl, .inr rfl, .inr rfl, .inl (by decide), .inr rfl, .inr rfl,
    .inr rfl, .inr rfl, .inr rfl, .inr rfl, .inr rfl, .inr rfl, .inr rfl, .inr rfl, .inr rfl, .inr rfl⟩

theorem holdFans_within (s : State) : Within [.fans] s (holdFans s) :=
  ⟨rfl, rfl, rfl, .of_eq rfl, .inr rfl, .inr rfl, .inr rfl, .inr rfl, .inr rfl, .inr rfl, .inr rfl, .inr rfl, .inl (by
    decide), .inr rfl, .inr rfl, .inr rfl, .inr rfl, .inr rfl, .inr rfl, .inr rfl, .inr rfl, .inr rfl⟩

theorem enterConfig_within (s : State) :
    Within [.control, .bays, .rows, .fans, .guidance, .fieldLoop] s (enterConfig s) := by
  unfold enterConfig
  refine Within.trans ?_ ((post_within _ _ _ _ _).mono (by decide))
  refine Within.trans ?_ ((holdFans_within _).mono (by decide))
  refine Within.trans ?_ ((freezeRows_within _).mono (by decide))
  refine Within.trans ?_ ((setLoop_within _ _).mono (by decide))
  exact ((setControl_within _ s).mono (by decide)).trans ((emptyGuidance_within _).mono (by decide))

/-! ### Figures -/

/-- The largest scale whose extra fits: it fits, and none above it up to `n` does (R153). -/
theorem largestScale_spec (extra : Nat → Nat) (budget n : Nat) (h0 : extra 0 ≤ budget) :
    largestScale extra budget n ≤ n ∧ extra (largestScale extra budget n) ≤ budget ∧
      ∀ j, largestScale extra budget n < j → j ≤ n → budget < extra j := by
  induction n with
  | zero => exact ⟨Nat.le_refl 0, h0, fun j a b => absurd b (by simp only [largestScale] at a; omega)⟩
  | succ n ih =>
    obtain ⟨a, b, c⟩ := ih
    unfold largestScale
    split
    · rename_i h
      exact ⟨Nat.le_refl _, h, fun j x y => by omega⟩
    · rename_i h
      refine ⟨by omega, b, fun j x y => ?_⟩
      by_cases hj : j = n + 1
      · subst hj; omega
      · exact c j x (by omega)

/-- The ticket issued after `n` with `fuel` tries is a number 1 to 65535. -/
theorem nextTicket_range (g : Guidance) (fuel n : Nat) : 1 ≤ nextTicket g fuel n ∧ nextTicket g fuel n ≤ 65535 := by
  have range : ∀ k, 1 ≤ ticketAfter k ∧ ticketAfter k ≤ 65535 := by
    intro k; unfold ticketAfter; split <;> omega
  induction fuel generalizing n with
  | zero => exact range n
  | succ fuel ih =>
    unfold nextTicket
    split
    · exact ih _
    · exact range n

/-- Division rounded up: the least number whose product with the divisor is no less (Conventions, "Rounding"). -/
theorem ceilDiv_spec (a b : Nat) (hb : 0 < b) : a ≤ ceilDiv a b * b ∧ ceilDiv a b * b < a + b := by
  unfold ceilDiv
  have h := Nat.div_add_mod (a + b - 1) b
  have hm := Nat.mod_lt (a + b - 1) hb
  rw [Nat.mul_comm] at h
  omega

theorem ceilDiv_mono (a a' b : Nat) (h : a ≤ a') : ceilDiv a b ≤ ceilDiv a' b := by
  unfold ceilDiv
  exact Nat.div_le_div_right (by omega)

end Sys2Proof.Machine
end

