-- ==== Sys2Proof/Laws/Ports.lean ====
section
/-! SUPPORT. What a port does with an entry: one that arrives at a port which can take it is judged at once, and its answer
is placed; one that arrives where it cannot be taken waits, or is discarded. -/

namespace Sys2Proof.Machine

/-! ### The checks of a command -/

@[simp] theorem checked_nil (s : State) (k : Effect) : checked s [] k = k := rfl

@[simp] theorem checked_cons (s : State) (b : Bool) (status : Status) (rest : List (Bool × Status)) (k : Effect) :
    checked s ((b, status) :: rest) k = if b then refuse s status else checked s rest k := by
  cases b <;> simp [checked]

/-! ### What `Ready` says -/

theorem ready_held {s : State} {st : Station} (h : Ready s st = true) : s.control.resetHeld = false := by
  simp [Ready] at h; exact h.1.1

theorem ready_commands {s : State} {st : Station} (h : Ready s st = true) : (s.port st).commands = [] := by
  simp [Ready] at h; exact h.1.2

theorem ready_responses {s : State} {st : Station} (h : Ready s st = true) : (s.port st).responses.length ≤ 1 := by
  simp [Ready] at h; exact h.2

/-! ### Arrivals -/

/-- A port with no entry waiting, put back as it was. -/
theorem setPort_no_commands (s : State) (st : Station) (h : (s.port st).commands = []) :
    s.setPort st { s.port st with commands := [] } = s := by
  rw [← h]; exact State.setPort_port s st

/-- An entry that arrives at a port with nothing waiting and with room for its response is judged as it arrives, and its
answer placed (R175). -/
theorem receive_taken (st : Station) (e : Entry) (s : State) (hh : s.control.resetHeld = false)
    (hc : (s.port st).commands = []) (hr : (s.port st).responses.length + slotsNeeded e ≤ 2) :
    receive st e s = placeResponses st e (s.port st).overrun (judgeEntry st e s) := by
  have hs := setPort_no_commands s st hc
  simp [receive, arrive, hh, hc, takeReady, takeEntries, hasRoom, hr, takeEntry, hs]

/-- The same of every entry but READ_LOADS, at a port that is `Ready`. -/
theorem receive_ready (st : Station) (e : Entry) (s : State) (h : Ready s st = true) (he : (entryEcho e).2 ≠ 0x07) :
    receive st e s = placeResponses st e (s.port st).overrun (judgeEntry st e s) := by
  have := ready_responses h
  exact receive_taken st e s (ready_held h) (ready_commands h) (by simp [slotsNeeded, he]; omega)

/-- An entry whose answer is one response is answered as `replies` says. -/
theorem receive_answer (st : Station) (e : Entry) (s s' : State) (status : Status) (contents : List Byte)
    (h : Ready s st = true) (he : (entryEcho e).2 ≠ 0x07) (hj : judgeEntry st e s = (s', [(status, contents)])) :
    Host.Outcome.next (receive st e s) = replies s st (entryEcho e).1 (entryEcho e).2 status contents s' := by
  rw [receive_ready st e s h he, hj]
  rfl

/-- An entry whose judging answers nothing leaves the state its effect gives (a restart, R181). -/
theorem receive_silent (st : Station) (e : Entry) (s s' : State) (h : Ready s st = true) (he : (entryEcho e).2 ≠ 0x07)
    (hj : judgeEntry st e s = (s', [])) : receive st e s = s' := by
  rw [receive_ready st e s h he, hj]
  rfl

/-- What judging makes of a command of the caller's class with a payload of the right length (R176). -/
theorem judgeEntry_taken (st : Station) (tag : Nat) (c : Command) (s : State) (hc : inClass c.code st = true)
    (hl : c.lengthFits = true) : judgeEntry st (.command tag c) s = execute st c s := by
  simp [judgeEntry, hc, hl]

/-- An entry that arrives while others wait, or without room for its response, waits behind them (R175). -/
theorem receive_waits (st : Station) (e : Entry) (s : State) (hh : s.control.resetHeld = false)
    (hc : (s.port st).commands = []) (hr : 2 < (s.port st).responses.length + slotsNeeded e) :
    receive st e s = s.setPort st { s.port st with commands := [e] } := by
  have : ¬ (s.port st).responses.length + slotsNeeded e ≤ 2 := by omega
  simp [receive, arrive, hh, hc, takeReady, takeEntries, hasRoom, this]

/-- With two entries waiting a frame that completes is discarded and the command-overrun flag is set (R173). -/
theorem receive_full (st : Station) (e : Entry) (s : State) (hh : s.control.resetHeld = false)
    (hc : 2 ≤ (s.port st).commands.length) : receive st e s = s.setPort st { s.port st with overrun := true } := by
  have : ¬ (s.port st).commands.length < 2 := by omega
  simp [receive, arrive, hh, this]

/-! ### Rows of station commands -/

/-- The row of a station command is the arrival of its entry at the port of the station. -/
theorem exec_entry (i : Instr) (st : Station) (e : Entry) (s : State) (hi : i.entry = some (st, e)) :
    exec i s = .next (receive st e s) := by
  cases i <;> simp [Instr.entry] at hi <;> obtain ⟨rfl, rfl⟩ := hi <;> rfl

/-- A command of the caller's class with a payload of the right length, at a port that is `Ready`: where its block answers one
response, the row answers the state it leaves with that response. -/
theorem exec_command (i : Instr) (st : Station) (tag : Nat) (c : Command) (s s' : State) (status : Status)
    (contents : List Byte) (hi : i.entry = some (st, .command tag c)) (h : Ready s st = true) (hr : c.code ≠ 0x07)
    (hc : inClass c.code st = true) (hl : c.lengthFits = true) (he : execute st c s = (s', [(status, contents)])) :
    exec i s = replies s st tag c.code status contents s' := by
  have hj : judgeEntry st (.command tag c) s = (s', [(status, contents)]) := by rw [judgeEntry_taken st tag c s hc hl, he]
  rw [exec_entry i st _ s hi, receive_answer st (.command tag c) s s' status contents h hr hj]
  rfl

/-- Of any entry whose judging answers one response. -/
theorem exec_judged (i : Instr) (st : Station) (e : Entry) (s s' : State) (status : Status) (contents : List Byte)
    (hi : i.entry = some (st, e)) (h : Ready s st = true) (hr : (entryEcho e).2 ≠ 0x07)
    (hj : judgeEntry st e s = (s', [(status, contents)])) :
    exec i s = replies s st (entryEcho e).1 (entryEcho e).2 status contents s' := by
  rw [exec_entry i st e s hi, receive_answer st e s s' status contents h hr hj]

end Sys2Proof.Machine
end

