-- ==== Sys2Proof/Tests/Slice0.lean ====
section
/-! SUPPORT. Small tests: ill-formed commands refused by the well-formedness checks, frames written out by hand and read by
the decoder, single steps with their expected values from the manual's worked cases, and for each statement with hypotheses
a state and operands that meet them. -/

namespace Sys2Proof.Machine.Test

-- One theorem at a time: each waits for the kernel, and too many waiting at once run out of threads.
set_option Elab.async false

/-! ### Small states -/

/-- A bay of node 12 with references at bands 0 and 2. -/
def bay (row cls channel cost : Nat) (sensed : Sensed) : Bay :=
  { Bay.fresh
      { row := row, cls := cls, node := 12, channel := channel, cost := cost, onThr := 400, offThr := 250,
        ref0 := some 12000, ref1 := none, ref2 := some 9800, ref3 := none } 12000 with
    sensed := sensed, learning := false }

/-- A row of 1,200 W at its base level of 30 %. -/
def row (level zone : Nat) (parent : Parent) (node requested : Nat) : Row :=
  { cfg := { level := level, zone := zone, parent := parent, node := node, rated := 1200, base := 30, active := 100,
             holdTime := 120 }
    requested := requested, lightTimer := none, granted := 30, commanded := 30, step := .still }

/-- A level with no sign node and no traffic range. -/
def level (count : Nat) : Level :=
  { Level.fresh { driftLimit := 15, driftTime := 600, weight := 4, sign1 := none, sign2 := none,
                  traffic := List.replicate 8 none } with count := count }

/-- A zone that is not FAILSAFE. -/
def zone (level stage : Nat) : Zone := { Zone.fresh { level := level, failsafeDemand := 60 } with failsafe := false, stage := stage }

/-- A fan STOPPED at 0, with its intervals at their defaults. -/
def fan (zone rated cls floor request : Nat) : Fan :=
  { Fan.fresh
      { zone := zone, rated := rated, minRun := 25, start := 15, maxSpeed := 100, accel := 2, decel := 3, reversible := true,
        dirA := .forward, dirB := .reverse, dwell := 15 } .forward with
    cls := cls, floor := floor, request := request }

/-- The deck of the worked sequence "a peak on level 4", in RUN mode. -/
def deck : State :=
  { State.reset with
    deckTime := 20000#32
    control := { State.reset.control with mode := .run, working := none }
    bays :=
      [(600, bay 30 0 0 1200 .vacant), (601, bay 30 2 1 1250 .vacant), (602, bay 30 0 2 1300 .present),
       (640, bay 31 0 3 900 .vacant), (641, bay 31 1 4 950 .vacant)]
    levels := [(4, level 90)]
    rows := [(30, row 4 7 (.pair 5) 160 30), (31, row 4 8 (.row 30) 161 30)]
    zones := [(7, zone 4 0), (8, zone 4 2)]
    guidance := { State.reset.guidance with lastTicket := 411 } }

/-- The deck with every bay but one taken, so that requests wait. -/
def full : State := { deck with bays := [(600, bay 30 0 0 1200 .present)] }

/-- The deck after a hold for ticket 412 on bay 600. -/
def holding : State :=
  { deck with
    bays := [(600, { bay 30 0 0 1200 .vacant with admin := .held 412 }), (602, bay 30 0 2 1300 .vacant)]
    guidance :=
      { deck.guidance with
        lastTicket := 412
        holds := [{ ticket := 412, bay := 600, station := .lane, cls := 0, level := 4, issued := 17000#32, expiry := 20000#32,
                    path := [30] }] } }

/-- The deck with request 416 of the lane station waiting. -/
def waiting : State :=
  { full with
    guidance :=
      { full.guidance with
        queue := [{ ticket := 416, station := .lane, cls := 0, lane := 1, priority := false, enqueued := 11000#32,
                    deadline := 20000#32 }] } }

/-- The deck in CONFIG mode with its configuration as the working copy. -/
def config : State := { deck with control := { deck.control with mode := .config, working := some deck.inForce } }

/-- The loads of the worked allocation of chapter 7, with A = 25,000 W. -/
def plant : State :=
  { State.reset with
    control := { State.reset.control with mode := .run, working := none }
    fans := [(1, fan 1 22000 1 25 80), (2, fan 1 22000 1 25 80), (3, fan 2 15000 3 0 40)]
    rows := (List.range 10).map fun n => (n, row 0 0 (.pair 0) (160 + n) (if n < 4 then 100 else 30))
    supply := { State.reset.supply with normal := 25000, shed := 12000 } }

/-- Pair 5 joining levels 2 and 3, with 148 and 90 vehicles, and a filtered state of the decoder. -/
def ramp (a b : Bool) (position : Int) (spoiled : Bool) : State :=
  { State.reset with
    deckTime := 1024#32
    control := { State.reset.control with mode := .run, working := none }
    levels := [(2, level 148), (3, level 90)]
    pairs := [(5, { cfg := { upper := .level 2, lower := 3 }, filteredA := a, filteredB := b, position := position,
                    spoiled := spoiled, settle := some 1024#32 })] }

/-- One fan on channel 3 of zone 1, in RUN mode, as the fan given. -/
def oneFan (f : Fan) : State :=
  { State.reset with
    control := { State.reset.control with mode := .run, working := none }
    zones := [(1, zone 1 3)]
    fans := [(3, f)] }

/-- A loop that is RUNNING with a transaction whose request is out. -/
def polling (t : Transaction) : State :=
  { deck with loop := { deck.loop with state := .running, pollList := [t.address], next := 1, current := some t } }

/-- A transaction with gas head 5, awaiting its reply. -/
def gasPoll : Transaction := { address := 133, request := .pollGas, sent := true, received := [] }

/-- Two characters of a reply, the second of which would have to be without a marker. -/
def char (byte : Byte) (marker : Bool) : FieldChar := { data := byte, marker := marker, stopOk := true }

/-- The state a step answers. -/
def after (o : Host.Outcome State Fault Refusal) : State :=
  match o with
  | .next t => t
  | .fault _ => State.reset
  | .refused _ => State.reset

/-- The newest response of a port after a step: its status and contents. -/
def answered (st : Station) (o : Host.Outcome State Fault Refusal) : Option (Nat × List Nat) :=
  ((after o).port st).responses.getLast?.map fun r => (r.status.code, r.contents.map BitVec.toNat)

/-- The newest event of a port after a step: kind, subject, A and B. -/
def told (st : Station) (o : Host.Outcome State Fault Refusal) : Option (Nat × Nat × Nat × Nat) :=
  ((after o).port st).events.getLast?.map fun e => (e.kind.code, e.subject, e.a, e.b)

/-! ### Ill-formed commands, one for each check -/

theorem test_tag_of_two_bytes_refused : Instr.wellFormed (.readStatus .lane 256) = false := by decide +kernel
theorem test_byte_operand_refused : Instr.wellFormed (.readEvents .lane 1 256) = false := by decide +kernel
theorem test_word_operand_refused : Instr.wellFormed (.withdraw .lane 1 65536) = false := by decide +kernel
theorem test_long_operand_refused : Instr.wellFormed (.setEventMask .lane 1 4294967296) = false := by decide +kernel
theorem test_short_define_refused : Instr.wellFormed (.define .supervisor 1 6 7 [4]) = false := by decide +kernel
theorem test_wide_field_refused : Instr.wellFormed (.define .supervisor 1 6 7 [4, 65536]) = false := by decide +kernel
theorem test_long_unknown_kind_refused : Instr.wellFormed (.define .supervisor 1 7 0 (List.replicate 153 0)) = false := by decide +kernel
theorem test_short_class_table_refused : Instr.wellFormed (.setClassTable .supervisor 1 [0, 1, 2]) = false := by decide +kernel
theorem test_short_penalties_refused : Instr.wellFormed (.setPenalty .supervisor 1 [0]) = false := by decide +kernel
theorem test_short_stage_table_refused : Instr.wellFormed (.setStageTable .supervisor 1 [] 20 180) = false := by decide +kernel
theorem test_short_traffic_table_refused : Instr.wellFormed (.setTrafficTable .supervisor 1 3 []) = false := by decide +kernel
theorem test_long_poll_list_refused : Instr.wellFormed (.setPollList .supervisor 1 1 (List.replicate 154 0)) = false := by decide +kernel
theorem test_known_code_refused : Instr.wellFormed (.unknownCommand .lane 1 0x30) = false := by decide +kernel
theorem test_ticket_zero_refused : Instr.wellFormed (.holdExpiry 0) = false := by decide +kernel
theorem test_pair_sixteen_refused : Instr.wellFormed (.settleTimerExpiry 16) = false := by decide +kernel
theorem test_channel_twenty_four_refused : Instr.wellFormed (.reverseDwellExpiry 24) = false := by decide +kernel

/-! ### Frames, written out from section 9.8 with their check codes worked out by hand -/

/-- The usual check value of this CRC, over the nine digits 1 to 9. -/
theorem test_crc_of_digits : crc16 [0x31, 0x32, 0x33, 0x34, 0x35, 0x36, 0x37, 0x38, 0x39] = 0x29B1#16 := by decide +kernel

theorem test_decode_read_status : decodeFrame [0x05, 0x07, 0x01, 0xAE, 0xDA] = some (.command 7 .readStatus) := by decide +kernel

theorem test_decode_request_bay :
    decodeFrame [0x08, 0x08, 0x30, 0x00, 0x01, 0x00, 0x1E, 0xA7] = some (.command 8 (.requestBay 0 1 0)) := by decide +kernel

theorem test_decode_claim_bay :
    decodeFrame [0x08, 0x09, 0x38, 0x58, 0x02, 0x00, 0x93, 0x09] = some (.command 9 (.claimBay 600 0)) := by decide +kernel

theorem test_decode_set_allowance :
    decodeFrame [0x0D, 0xFF, 0x20, 0xA8, 0x61, 0x00, 0x00, 0xE0, 0x2E, 0x00, 0x00, 0xBF, 0x12] =
      some (.command 255 (.setAllowance 25000 12000)) := by decide +kernel

theorem test_decode_define_zone :
    decodeFrame [0x0C, 0x01, 0x14, 0x06, 0x07, 0x00, 0x04, 0x00, 0xFF, 0xFF, 0x61, 0x27] =
      some (.command 1 (.define 6 7 [4, 65535])) := by decide +kernel

theorem test_decode_set_poll_list :
    decodeFrame [0x09, 0x02, 0x16, 0x01, 0x00, 0x0C, 0xEF, 0xA7, 0x85] =
      some (.command 2 (.setPollList 1 [12, 239])) := by decide +kernel

theorem test_decode_set_light_levels :
    decodeFrame [0x0B, 0x03, 0x2A, 0xFF, 0x1E, 0x64, 0x78, 0x00, 0x05, 0x64, 0x66] =
      some (.command 3 (.setLightLevels 255 30 100 120 5)) := by decide +kernel

theorem test_decode_vent_override :
    decodeFrame [0x09, 0x04, 0x23, 0x06, 0x50, 0x58, 0x02, 0xE4, 0xC6] = some (.command 4 (.ventOverride 6 80 600)) := by decide +kernel

theorem test_decode_manual_fan :
    decodeFrame [0x07, 0x04, 0x28, 0x17, 0x32, 0x1F, 0xBB] = some (.command 4 (.manualFan 23 50)) := by decide +kernel

/-- A last byte off by one is a bad frame with the second byte as its tag. -/
theorem test_decode_bad_crc : decodeFrame [0x05, 0x07, 0x01, 0xAE, 0xDB] = some (.badFrame 7) := by decide +kernel

/-- A request of the field loop: POLL_GAS to head 10. -/
theorem test_poll_gas_frame : requestFrame 138 .pollGas = [0x8A, 0x03, 0xD9, 0x3F] := by decide +kernel

/-! ### Commands, with the values of the manual's worked cases -/

theorem test_power_on_is_reset : exec (.powerOn false) State.reset = .next State.reset := by rfl

/-- At 2,000.0 s the lane station is given bay 600 under ticket 412. -/
theorem test_request_bay_assigned :
    answered .lane (exec (.requestBay .lane 7 0 1 0) deck) = some (0, [156, 1, 0, 88, 2, 4, 30]) := by decide +kernel

theorem test_request_bay_hold :
    ((after (exec (.requestBay .lane 7 0 1 0) deck)).guidance.holds.map fun h => (h.ticket, h.bay, h.expiry.toNat)) =
      [(412, 600, 23000)] := by decide +kernel

/-- At 2,020.0 s no STANDARD bay is free and the request waits at position 1. -/
theorem test_request_bay_queued :
    answered .lane (exec (.requestBay .lane 7 0 1 0) full) = some (0, [156, 1, 1, 1]) := by decide +kernel

/-- A hold at its expiry: HOLD_LAPSED (412, bay 600, TIME) to the lane station. -/
theorem test_hold_lapses : told .lane (exec (.holdExpiry 412) holding) = some (17, 412, 600, 0) := by decide +kernel

theorem test_request_lapses : told .lane (exec (.waitTimerExpiry 416) waiting) = some (15, 416, 0, 1) := by decide +kernel

theorem test_withdraw : answered .lane (exec (.withdraw .lane 1 416) waiting) = some (0, [1]) := by decide +kernel

theorem test_cancel_hold : answered .guidance (exec (.cancelHold .guidance 1 412) holding) = some (0, [88, 2]) := by decide +kernel

theorem test_claim_mismatch :
    answered .guidance (exec (.claimBay .guidance 1 600 0) holding) = some (0x15, [1, 0]) := by decide +kernel

theorem test_close_bay_ends_hold :
    answered .supervisor (exec (.closeBay .supervisor 1 600) holding) = some (0, [1, 156, 1]) := by decide +kernel

/-- The worked allocation: F = 4,288 W, scales 252, 40 and 159, 38 W left. -/
theorem test_worked_allocation :
    divide plant = { floorTotal := 4288, budget := 38, scales := some (252, 40, 159) } := by decide +kernel

theorem test_worked_allocation_total : (compute true plant).grantedSum = 24962 := by decide +kernel

/-- SHED at a peak: 11,990 W granted of 12,000. -/
theorem test_shed_grants :
    (after (exec (.shedChange true) (compute true plant))).grantedSum = 11990 := by
  decide +kernel

/-- The downward crossing: the fourth step, to phase 0 at position 4. -/
theorem test_downward_crossing :
    ((after (exec (.settleTimerExpiry 5) (ramp false true 3 false))).levels.map fun p => (p.1, p.2.count)) =
      [(2, 147), (3, 91)] := by decide +kernel

/-- A vehicle that backs off is not counted. -/
theorem test_backing_off :
    ((after (exec (.settleTimerExpiry 5) (ramp true false 1 false))).levels.map fun p => (p.1, p.2.count)) =
      [(2, 148), (3, 90)] := by decide +kernel

/-- The traffic index of level 3: 29 + 4 × 2 with S taken as 210 of 212. -/
theorem test_ring_advances :
    advanceRing [4, 7, 9, 6, 3] = [7, 9, 6, 3, 0] := by decide +kernel

/-- The worked conversion of head 5. -/
theorem test_conversion :
    convertGas 1730 410 358 1000 false = 115 ∧ convertGas 905 380 60 500 false = 7 := by decide +kernel

/-- The worked arrival with tracking: a deviation of 10 moves the baseline by 1; 479 lies outside the window. -/
theorem test_tracking : trackBaseline 12040 12050 400 = 12041 ∧ trackBaseline 12041 12520 400 = 12041 := by decide +kernel

/-- The learning of the worked band change: bay 97 stays PRESENT at 9,800, bay 99 VACANT at 9,700. -/
theorem test_learning : learnOutcome 10460 9800 400 = (9800, .present) ∧ learnOutcome 9700 9650 400 = (9700, .vacant) := by
  decide +kernel

theorem test_fan_power : (plant.fans.map fun p => p.2.cfg.power 78) = [10441, 10441, 7119] := by decide +kernel

/-- A 500 W fan draws 1 W at 5 % and at 6 %; with the draw of the loads above the allowance that step is held too (R131). -/
theorem test_equal_draw_step_is_held :
    let small := { fan 1 500 3 0 20 with state := .accelerating, commanded := 5, granted := 20, timer := some 0#32 }
    let s := { oneFan small with
      fans := [(3, small), (4, { fan 1 22000 3 0 100 with state := .steady, commanded := 100, granted := 100 })]
      supply := { State.reset.supply with normal := 1000 } }
    ((after (exec (.accelerationTimerExpiry 3) s)).fans.find 3).map (fun f => (f.commanded, f.rampHeld)) = some (5, true) := by
  decide +kernel

/-- The characters of a POLL_GAS going out: the marker bit is 1 on the address alone (R161). -/
theorem test_request_markers :
    (polling { gasPoll with address := 138, sent := false }).sending.map (fun c => (c.data.toNat, c.marker)) =
      [(0x8A, true), (0x03, false), (0xD9, false), (0x3F, false)] := by decide +kernel

/-! ### Witnesses: for each statement with hypotheses, states and operands that meet them, clause by clause -/

/-- A port whose two response slots are taken. -/
def twoResponses : Port :=
  { Port.reset .lane with
    responses := List.replicate 2
      { tag := 1, code := 1, status := .done, contents := [],
        flags := { commandOverrun := false, eventsWaiting := false, more := false, config := false, profileBusy := false } } }

/-- The deck with a lane port as given. -/
def withLane (p : Port) : State := deck.setPort .lane p

/-- A part with a profile write in flight that expires at deck time 20,050. -/
def writing : State :=
  { config with
    control :=
      { config.control with write := some { started := 20000#32, expires := 20050#32, contents := Profile.defaults } } }

/-- A part whose store holds a valid profile. -/
def stored : State := { config with control := { config.control with store := some Profile.defaults } }

/-- The deck with gas head 5 VALID in zone 7. -/
def gassed : State :=
  { deck with
    heads :=
      [(5, { Head.fresh { zone := 7, coOffset := 410, coGain := 358, no2Offset := 380, no2Gain := 60 } with
             health := .valid, values := some { co := 115, no2 := 7, time := 19990#32 } })] }

/-- Levels 3 and 4 that name sign 224. -/
def signs : State :=
  { deck with
    levels :=
      [(3, { level 0 with cfg := { (level 0).cfg with sign2 := some 224 } }),
       (4, { level 0 with cfg := { (level 0).cfg with sign1 := some 224 } })] }

/-- A part in CONFIG mode with row 30 FROZEN and fan 3 HELD in force, whose working copy passes COMMIT: levels 0 and 1, rows
30 and 31 on level 1, a bay, a head and a second fan. -/
def editing : State :=
  let plain : LevelCfg := (level 0).cfg
  let r : RowCfg := (row 1 7 (.pair 1) 160 30).cfg
  { State.reset with
    deckTime := 20000#32
    levels := [(1, level 90)]
    rows := [(30, { row 1 7 (.pair 1) 160 30 with step := .frozen })]
    zones := [(7, zone 1 2)]
    fans := [(3, { fan 7 22000 3 0 40 with state := .held, commanded := 50 })]
    control :=
      { State.reset.control with
        working := some
          { Configuration.empty with
            bays := [(600, (bay 30 0 0 1200 .vacant).cfg)]
            pairs := [(0, { upper := .street, lower := 0 }), (1, { upper := .level 0, lower := 1 })]
            levels := [(0, plain), (1, plain)]
            rows := [(30, r), (31, { r with parent := .row 30, node := 161 })]
            heads := [(5, { zone := 7, coOffset := 410, coGain := 358, no2Offset := 380, no2Gain := 60 })]
            zones := [(7, { level := 1, failsafeDemand := 60 })]
            fans := [(3, (fan 7 22000 3 0 40).cfg), (4, (fan 7 8000 3 0 40).cfg)]
            pollList := [12, 133, 160, 161] } } }

/-- A part held in restart. -/
def held : State := { stored with control := { stored.control with resetHeld := true } }

theorem witness_StepRunsFrontCommand : ∃ (s : State) (c : Instr) (rest : List Instr), s.pending = c :: rest :=
  ⟨{ deck with pending := [.requestBay .lane 7 0 1 0, .deckTimeTick] }, _, _, rfl⟩

theorem witness_BoundsKeptByStep : ∃ s t : State, Bounded s = true ∧ step s = .next t :=
  ⟨{ waiting with pending := [.requestBay .lane 7 0 1 0] }, _, by decide +kernel, rfl⟩

theorem witness_TablesKeptByStep :
    ∃ s t : State, step s = .next t ∧ TablesRising s = true ∧ AddressTablesRising s = true :=
  ⟨{ stored with pending := [.define .supervisor 1 6 11 [7, 100]] }, _, rfl, by decide +kernel⟩

theorem witness_RestingFansKeptByStep : ∃ s t : State, FansAtRest s = true ∧ step s = .next t :=
  ⟨{ oneFan { fan 1 22000 1 25 80 with state := .faulted } with pending := [.clearFan .supervisor 1 3] }, _,
    by decide +kernel, rfl⟩

theorem witness_HoldsKeptByStep :
    ∃ s t : State, Bounded s = true ∧ TablesRising s = true ∧ HoldsMatch s = true ∧ step s = .next t :=
  ⟨{ holding with pending := [.requestBay .lane 7 0 1 0] }, _, by decide +kernel, by decide +kernel, by decide +kernel, rfl⟩

/-- A fan on channel 3 in RUN mode. -/
theorem witness_LoadsKeptByStep :
    ∃ s t : State, step s = .next t ∧ TablesRising s = true ∧ LoadsFit s = true ∧ DemandsHanded s = true ∧
      StepsHeld s = true ∧ s.inRun = true ∧ s.fans ≠ [] :=
  ⟨{ handDemands (oneFan (fan 1 22000 1 25 80)) with pending := [.accelerationTimerExpiry 3] }, _, rfl, by decide +kernel⟩

/-- The longest and the shortest frame: a piece of 153 entries, and a command without operands. -/
theorem witness_FramesReadBack :
    ∃ c d : Command, c.wellFormed = true ∧ d.wellFormed = true ∧ (encodeFrame 255 c).length = 160 ∧
      (encodeFrame 0 d).length = 5 :=
  ⟨.setPollList 65535 (List.replicate 153 255), .readStatus, by decide +kernel⟩

/-- WITHDRAW with one byte of its ticket, in a transaction of the lane station; then each check in its turn. -/
theorem witness_CommandChecksInOrder :
    Ready deck .lane = true ∧
    (∃ (i : Instr) (c : Command), i.entry = some (.lane, .command 0 c) ∧ inClass c.code .lane = false) ∧
    (∃ (i : Instr) (c : Command), i.entry = some (.supervisor, .command 0 c) ∧ inClass c.code .supervisor = true ∧
      c.lengthFits = false) ∧
    (inCommandTable 0x08 = false ∧ inCommandTable 0x0F = false ∧ inCommandTable 0x19 = false ∧
      inCommandTable 0x3C = false) ∧
    (Ready (withLane { Port.reset .lane with transaction := .active none false }) .lane = true ∧
      decodeFrame (withCrc [6, 9, 0x31, 1]) = some (.misfit 9 0x31) ∧ (0x31 = 0x07 → (deck.port .lane).responses = [])) ∧
    (inCommandTable 0x31 = true ∧ decodeEntry 9 0x31 [1] = .misfit 9 0x31 ∧ decodeEntry 9 0x31 [1, 0] ≠ .misfit 9 0x31) ∧
    (∃ (i : Instr) (c : Command) (s : State), i.entry = some (.supervisor, .command 0 c) ∧ Ready s .supervisor = true ∧
      inClass c.code .supervisor = true ∧ c.lengthFits = true ∧ (runOnly c && !s.inRun || configOnly c && s.inRun) = true) ∧
    (∃ (i : Instr) (c : Command) (s : State), i.entry = some (.supervisor, .command 0 c) ∧ Ready s .supervisor = true ∧
      inClass c.code .supervisor = true ∧ c.lengthFits = true ∧
      (runOnly c && !s.inRun || configOnly c && s.inRun) = false ∧ busyRefused c = true ∧ s.writing = true) ∧
    ∃ (c : Command) (s : State), ∃ r ∈ (execute .supervisor c s).2, r.1 = .busy :=
  ⟨by decide +kernel, ⟨.claimBay .lane 0 600 0, .claimBay 600 0, by decide +kernel⟩,
   ⟨.define .supervisor 0 6 7 [], .define 6 7 [], by decide +kernel⟩, by decide +kernel, by decide +kernel,
   by decide +kernel, ⟨.enterConfig .supervisor 0, .enterConfig, config, by decide +kernel⟩,
   ⟨.commit .supervisor 0, .commit, writing, by decide +kernel⟩, ⟨.commit, writing, by decide +kernel⟩⟩

theorem witness_RefusedCommandsChangeNothing :
    ∃ (st : Station) (c : Command) (s t : State) (status : Status) (contents : List Byte),
      execute st c s = (t, [(status, contents)]) ∧ carriedOut status = false :=
  ⟨.guidance, .claimBay 600 0, holding, holding, .mismatch, [1, 0], by decide +kernel⟩

/-- A full response buffer, with room in the command buffer and without; and each step of a transaction. -/
theorem witness_PortTransactionSteps :
    (∃ (i : Instr) (st : Station) (e : Entry) (s : State), i.entry = some (st, e) ∧ s.control.resetHeld = false ∧
      (s.port st).commands.length < 2 ∧ hasRoom (s.port st) ((s.port st).commands.headD e) = false) ∧
    (∃ (i : Instr) (st : Station) (e : Entry) (s : State), i.entry = some (st, e) ∧ s.control.resetHeld = false ∧
      2 ≤ (s.port st).commands.length) ∧
    deck.control.resetHeld = false ∧ (deck.port .lane).transaction = .idle ∧
    (∃ bytes e, decodeFrame bytes = some e) ∧
    (∃ (p : Port) (r : Response), p.transaction = .active (some r) true ∧ p.commands = []) ∧
    (∃ (p : Port) (r : Response) (e : Entry), p.transaction = .active (some r) true ∧ p.commands = [e] ∧
      p.responses.length ≤ 2 ∧ slotsNeeded e = 1) ∧
    (entryAtRise [] = none ∧ entryAtRise [5, 7, 1] = none) ∧
    ∀ len ∈ [1#8, 4#8, 161#8, 255#8], len ≠ 0#8 ∧ (len.toNat < 5 ∨ 160 < len.toNat) :=
  ⟨⟨.queueCount .lane 9, .lane, .command 9 .queueCount, withLane twoResponses, by decide +kernel⟩,
   ⟨.queueCount .lane 9, .lane, .command 9 .queueCount,
    withLane { twoResponses with commands := [.badFrame 1, .badFrame 2] }, by decide +kernel⟩,
   by decide +kernel, by decide +kernel, ⟨[0x05, 0x07, 0x01, 0xAE, 0xDA], _, test_decode_read_status⟩,
   ⟨{ twoResponses with transaction := .active (twoResponses.responses.head?) true }, _, rfl, rfl⟩,
   ⟨{ twoResponses with transaction := .active (twoResponses.responses.head?) true, commands := [.badFrame 9] }, _, _, rfl,
     rfl, by decide, by decide⟩, by decide +kernel, by decide +kernel⟩

theorem witness_StatusAndEventCommandsAnswer :
    Ready deck .lane = true ∧ Ready writing .supervisor = true ∧ writing.writing = true ∧ deck.writing = false ∧
    (1 ≤ 1 ∧ 1 ≤ 6) ∧ (1 ≤ 6 ∧ 6 ≤ 6) ∧ 6 < 7 ∧ 2 ^ 28 ≤ 268435456 ∧ 268435455 < 2 ^ 28 := by decide +kernel

theorem witness_RecordAndListReadsAnswer :
    Ready holding .lane = true ∧ readFits 0 1024 0 = false ∧ (readFits 0 1023 0 = true ∧ readOut holding 0 1023 = none) ∧
    (∃ words, readFits 0 600 0 = true ∧ readOut holding 0 600 = some words) ∧ inClass 0x34 .lane = true :=
  ⟨by decide +kernel, by decide +kernel, by decide +kernel, ⟨_, by decide +kernel, rfl⟩, by decide +kernel⟩

/-- A record of each kind, and one of each kind that is not there. -/
theorem witness_RecordsReadOut :
    (∃ b, deck.bays.find 600 = some b) ∧ (∃ p, (ramp true true 2 false).pairs.find 5 = some p) ∧
    (∃ l, deck.levels.find 4 = some l) ∧ (∃ r, deck.rows.find 30 = some r) ∧ (∃ h, gassed.heads.find 5 = some h) ∧
    (∃ z, deck.zones.find 7 = some z) ∧ (∃ f, plant.fans.find 1 = some f) ∧
    deck.bays.find 0 = none ∧ deck.pairs.find 0 = none ∧ deck.levels.find 0 = none ∧ deck.rows.find 0 = none ∧
    deck.heads.find 0 = none ∧ deck.zones.find 0 = none ∧ deck.fans.find 0 = none :=
  ⟨⟨_, rfl⟩, ⟨_, rfl⟩, ⟨_, rfl⟩, ⟨_, rfl⟩, ⟨_, rfl⟩, ⟨_, rfl⟩, ⟨_, rfl⟩, by decide +kernel⟩

theorem witness_ReadLoadsAnswers :
    deck.control.resetHeld = false ∧ (deck.port .lane).commands = [] ∧ (deck.port .lane).responses = [] ∧
    (loadEntries deck).length ≤ 4 ∧ 5 ≤ ((loadEntries plant).take 8).length ∧ (plant.port .lane).responses = [] ∧
    ((withLane { twoResponses with responses := twoResponses.responses.drop 1 }).port .lane).responses.length = 1 := by
  decide +kernel

theorem witness_EnterConfigFreezesPart :
    Ready holding .supervisor = true ∧ holding.inRun = true ∧ holding.writing = false := by decide +kernel

/-- The working copy of the deck lacks pair 5 (check 3); an empty one passes. -/
theorem witness_CommitTakesWorkingCopy :
    (Ready config .supervisor = true ∧ config.inRun = false ∧ config.writing = false ∧
      commitFailure config.workingCopy = some { check := 3, kind := 4, number := 30 }) ∧
    (Ready State.reset .supervisor = true ∧ State.reset.inRun = false ∧ State.reset.writing = false ∧
      commitFailure State.reset.workingCopy = none) := by decide +kernel

/-- A working copy that passes the ten checks over a part with a row FROZEN and a fan HELD. -/
theorem witness_CommitKeepsOrResetsRecords :
    Ready editing .supervisor = true ∧ editing.inRun = false ∧ editing.writing = false ∧ TablesRising editing = true ∧
    commitFailure editing.workingCopy = none ∧ (∃ x, editing.workingCopy.levels.find 1 = some x) ∧
    (∃ x, editing.workingCopy.zones.find 7 = some x) := by
  exact ⟨by decide +kernel, by decide +kernel, by decide +kernel, by decide +kernel, by decide +kernel, ⟨_, rfl⟩, ⟨_, rfl⟩⟩

theorem witness_CommitStartsLoads :
    (Ready editing .supervisor = true ∧ editing.inRun = false ∧ editing.writing = false ∧ TablesRising editing = true ∧
      StepsHeld editing = true ∧ LoadsFit editing = true ∧ commitFailure editing.workingCopy = none) ∧
    (∃ x r, editing.workingCopy.rows.find 30 = some x ∧ editing.rows.find 30 = some r ∧ r.cfg.node = x.node) ∧
    (∃ x, editing.workingCopy.rows.find 31 = some x ∧ editing.rows.find 31 = none) ∧
    (∃ x f, editing.workingCopy.fans.find 3 = some x ∧ editing.fans.find 3 = some f ∧ f.state = .held) ∧
    (∃ x, editing.workingCopy.fans.find 4 = some x ∧ editing.fans.find 4 = none) ∧
    editing.loop.state ≠ .draining ∧ editing.loop.current = none :=
  ⟨by decide +kernel, ⟨_, _, rfl, rfl, by decide +kernel⟩, ⟨_, rfl, by decide +kernel⟩,
   ⟨_, _, rfl, rfl, by decide +kernel⟩, ⟨_, rfl, by decide +kernel⟩, by decide +kernel, by decide +kernel⟩

theorem witness_CommitChecksAreTheTen : config.workingCopy.rising = true := by decide +kernel

theorem witness_EditsReachWorkingCopy :
    (Ready config .supervisor = true ∧ config.inRun = false ∧ config.writing = false) ∧
    (∃ c, (Command.define 6 11 [7, 100]).lengthFits = true ∧ kindAndNumberFit 6 11 = true ∧
      config.workingCopy.define 6 11 [7, 100] = some (c, false)) ∧
    (kindAndNumberFit 6 12 = false ∧ config.workingCopy.define 6 7 [8, 100] = none) ∧
    (∃ c, kindAndNumberFit 6 7 = true ∧ config.workingCopy.delete 6 7 = some c) ∧
    (kindAndNumberFit 6 11 = true ∧ config.workingCopy.delete 6 11 = none) ∧
    (1 ≤ config.workingCopy.pollList.length + 1 ∧ ∀ a ∈ List.replicate 128 239, a ≤ 239) ∧ ¬ 240 ≤ 239 :=
  ⟨by decide +kernel, ⟨_, by decide +kernel, by decide +kernel, rfl⟩, by decide +kernel, ⟨_, by decide +kernel, rfl⟩,
   by decide +kernel, by decide +kernel, by decide⟩

theorem witness_ProfileWritesEnd :
    (Ready deck .supervisor = true ∧ deck.writing = false) ∧
    (∃ w, writing.control.resetHeld = false ∧ writing.control.write = some w ∧
      Time.reached ({ writing with deckTime := 20050#32 } : State).deckTime w.expires = true) ∧ deck.control.write = none :=
  ⟨by decide +kernel, ⟨_, by decide +kernel, rfl, by decide +kernel⟩, by decide +kernel⟩

theorem witness_RestartWithoutProfileClears :
    deck.control.store = none ∧ Ready deck .supervisor = true ∧ writing.writing = true ∧
    ({ deck with control := { deck.control with resetHeld := true } } : State).control.resetHeld = true := by decide +kernel

/-- A stored profile with a row and a fan. -/
theorem witness_RestartLoadsProfile :
    (∃ p, stored.control.store = some p ∧ stored.writing = false ∧ Ready stored .supervisor = true ∧
      held.control.store = some p ∧ held.writing = false ∧ held.control.resetHeld = true) ∧
    ∃ (s : State) (p : Profile), s.control.store = some p ∧ s.writing = false ∧ Ready s .supervisor = true ∧
      p.config.rising = true ∧ p.config.rows ≠ [] ∧ p.config.fans ≠ [] :=
  ⟨⟨Profile.defaults, by decide +kernel⟩,
   { editing with control := { editing.control with store := some { Profile.defaults with config := editing.workingCopy } } },
   _, rfl, by decide +kernel⟩

theorem witness_SoftRestartHoldAndTime :
    (Ready holding .supervisor = true ∧ holding.writing = false) ∧
    ({ deck with deckTime := 4294967295#32 } : State).control.resetHeld = false ∧ held.control.resetHeld = true ∧
    ∃ i st e, Instr.entry i = some (st, e) :=
  ⟨by decide +kernel, by decide +kernel, by decide +kernel, .readStatus .lane 1, _, _, rfl⟩

theorem witness_TablesWritten :
    (Ready config .supervisor = true ∧ config.writing = false ∧ config.inRun = false) ∧
    ((∃ l : List Nat, l.length = 16 ∧ ∀ e ∈ l, e ≤ 2) ∧ (∃ l : List Nat, l.length = 16 ∧ ∃ e ∈ l, 2 < e) ∧
      (∃ l : List Nat, l.length = 4 ∧ ∀ e ∈ l, e ≤ 65534) ∧ ∃ l : List Nat, l.length = 4 ∧ ∃ e ∈ l, 65534 < e) ∧
    (∃ s1 s2 s3 s4 : StageRow, stageTableFits [s1, s2, s3, s4] 50 30 = true) ∧
    stageTableFits defaultStageTable.stages 51 30 = false ∧
    (∃ slots : List SlotOperand, slots.length = 8 ∧ ∀ x ∈ slots, x.presence = 1 ∧ x.lower ≤ x.upper ∧ x.demand = 255) ∧
    config.workingCopy.levels.has 4 = true ∧ config.workingCopy.levels.has 7 = false :=
  ⟨by decide +kernel,
   ⟨⟨defaultClassTable, by decide +kernel⟩, ⟨List.replicate 16 3, by decide +kernel⟩, ⟨[0, 0, 500, 65534], by decide +kernel⟩,
    ⟨[0, 0, 0, 65535], by decide +kernel⟩⟩,
   ⟨⟨1, 1, 1, 0⟩, ⟨1, 1, 1, 0⟩, ⟨1, 1, 1, 0⟩, ⟨1000, 1000, 500, 100⟩, by decide +kernel⟩, by decide +kernel,
   ⟨List.replicate 8 ⟨1, 65535, 65535, 255⟩, by decide +kernel⟩, by decide +kernel⟩

/-- At 25,000 W a change of the shed allowance leaves A; at another normal allowance A changes. -/
theorem witness_AllowanceChangesAct :
    (Ready plant .supervisor = true ∧ plant.writing = false ∧ plant.inRun = true ∧ handDemands plant = plant) ∧
    (Ready config .supervisor = true ∧ config.writing = false ∧ config.inRun = false) ∧
    (plant.control.resetHeld = false ∧ held.control.resetHeld = true) := by decide +kernel

theorem witness_RequestBayPlacesRequest :
    (Ready deck .lane = true ∧ inClass 0x30 .lane = true ∧ deck.inRun = true ∧ deck.guidance.queue.length < 32) ∧
    (∃ h, findHold
      (settle deck
        (allocationPassFor (some 412)
          { deck with
            guidance :=
              { deck.guidance with
                lastTicket := 412
                queue := [{ ticket := 412, station := .lane, cls := 0, lane := 3, priority := false, enqueued := 20000#32,
                            deadline := 29000#32 }] } })).guidance.holds 412 = some h) ∧
    (Ready full .lane = true ∧ full.inRun = true ∧ full.guidance.queue.length < 32 ∧
      (after (exec (.requestBay .lane 1 3 3 0) full)).guidance.holds = []) ∧
    ∃ s : State, Ready s .lane = true ∧ s.inRun = true ∧ 32 ≤ s.guidance.queue.length :=
  ⟨by decide +kernel, ⟨_, rfl⟩, by decide +kernel,
   { waiting with
     guidance :=
       { waiting.guidance with
         queue := (List.range 32).map fun n =>
           { ticket := n + 1, station := .lane, cls := 0, lane := 0, priority := false, enqueued := 0#32, deadline := 9000#32 } } },
   by decide +kernel⟩

theorem witness_TicketsEnd :
    ((Ready waiting .lane = true ∧ inClass 0x31 .lane = true) ∧
      (∃ r, findRequest waiting.guidance.queue 416 = some r ∧ findHold waiting.guidance.holds 416 = none) ∧
      (∃ h, findHold holding.guidance.holds 412 = some h ∧ findRequest holding.guidance.queue 412 = none) ∧
      (findRequest waiting.guidance.queue 1 = none ∧ findHold waiting.guidance.holds 1 = none) ∧
      (∃ r, waiting.guidance.queue = [] ++ r :: [] ∧ r.station = .lane) ∧
      ∀ x ∈ waiting.guidance.queue, x.station ≠ .guidance) ∧
    (∃ r, findRequest waiting.guidance.queue 416 = some r ∧ Time.reached waiting.deckTime r.deadline = true) ∧
    (∃ h, findHold holding.guidance.holds 412 = some h ∧ Time.reached holding.deckTime h.expiry = true) ∧
    waiting.control.resetHeld = false ∧ holding.control.resetHeld = false :=
  ⟨⟨by decide +kernel, ⟨_, rfl, by decide +kernel⟩, ⟨_, rfl, by decide +kernel⟩, by decide +kernel, ⟨_, rfl, rfl⟩,
    by decide +kernel⟩, ⟨_, rfl, by decide +kernel⟩, ⟨_, rfl, by decide +kernel⟩, by decide +kernel⟩

/-- Bays in each admin state, at the greatest bay number and beside it. -/
theorem witness_ClaimCommandsMoveAdminState :
    (Ready holding .guidance = true ∧ inClass 0x38 .guidance = true) ∧
    (∃ b, deck.bays.find 600 = some b ∧ b.admin = .opened ∧ b.admin.code = 0 ∧ b.admin.code ≠ 2) ∧
    (∃ b t h, holding.bays.find 600 = some b ∧ b.admin = .held t ∧ findHold holding.guidance.holds t = some h) ∧
    (∃ (s : State) (b : Bay), s.bays.find 1023 = some b ∧ b.admin = .closed ∧ Ready s .guidance = true) ∧
    (∃ (s : State) (b : Bay), s.bays.find 1023 = some b ∧ b.admin = .claimed .guidance ∧ Ready s .guidance = true) ∧
    deck.bays.find 1023 = none ∧ 1023 < 1024 ∧ ((1 : Nat) ≠ 0 ∧ (1 : Nat) ≠ 2 ∧ (1 : Nat) ≠ 3) :=
  ⟨by decide +kernel, ⟨_, rfl, by decide +kernel⟩, ⟨_, _, _, rfl, rfl, rfl⟩,
   ⟨{ deck with bays := [(1023, { bay 30 0 0 0 .vacant with admin := .closed })] }, _, rfl, by decide +kernel⟩,
   ⟨{ deck with bays := [(1023, { bay 30 0 0 0 .vacant with admin := .claimed .guidance })] }, _, rfl, by decide +kernel⟩,
   by decide +kernel⟩

/-- The last number issued being 65,535 with ticket 1 live; a queue of both sections; a hold between two of the same expiry. -/
theorem witness_TicketsAndListsKeepOrder :
    (∃ g : Guidance, g.queue.length ≤ 32 ∧ g.holds.length ≤ 64 ∧ g.lastTicket = 65535 ∧ issueTicket g = 2) ∧
    (∃ r x y : Request, (x.cls = 1 ∨ x.priority = true) ∧ ¬ (y.cls = 1 ∨ y.priority = true) ∧
      (r.cls = 1 ∨ r.priority = true)) ∧
    (∃ r : Request, ¬ (r.cls = 1 ∨ r.priority = true)) ∧
    ∃ (h : Hold) (l : List Hold), l ≠ [] ∧ l.Pairwise (fun x y => holdBefore 0#32 x y = true) ∧ ∀ x ∈ l, x.ticket ≠ h.ticket := by
  let r := fun (t cls : Nat) (p : Bool) =>
    ({ ticket := t, station := .lane, cls := cls, lane := 0, priority := p, enqueued := 0#32, deadline := 0#32 } : Request)
  let h := fun (t : Nat) =>
    ({ ticket := t, bay := t, station := .lane, cls := 0, level := 0, issued := 0#32, expiry := 5#32, path := [] } : Hold)
  exact ⟨⟨{ waiting.guidance with lastTicket := 65535, queue := [r 1 1 false] }, by decide +kernel⟩,
    ⟨r 1 0 true, r 1 1 false, r 1 0 false, by decide⟩, ⟨r 1 3 false, by decide⟩, ⟨h 2, [h 1, h 3], by decide +kernel⟩⟩

theorem witness_PassChoosesFirstCandidate :
    deck.bays.rising = true ∧ (∃ n b, chooseBay deck 0 = some (n, b)) ∧ chooseBay full 0 = none :=
  ⟨by decide +kernel, ⟨600, _, rfl⟩, by decide +kernel⟩

/-- Bay 600 for a request of class 0; a full hold list; and a pass with one request waiting. -/
theorem witness_PassServesRequests :
    ((∃ b, deck.bays.find 600 = some b) ∧ deck.rows.rising = true) ∧
    (∃ s : State, 64 ≤ s.guidance.holds.length) ∧
    (full.guidance.holds.length < 64 ∧ chooseBay full 0 = none) ∧
    (deck.guidance.holds.length < 64 ∧ ∃ n b, chooseBay deck 0 = some (n, b)) ∧ waiting.guidance.queue ≠ [] :=
  ⟨⟨⟨_, rfl⟩, by decide +kernel⟩,
   ⟨{ holding with guidance := { holding.guidance with holds := holding.guidance.holds.flatMap (List.replicate 64) } },
    by decide +kernel⟩, by decide +kernel, ⟨by decide +kernel, 600, _, rfl⟩, by decide +kernel⟩

theorem witness_RampInputsAreDecoded :
    (deck.pins.rampA.getLsbD 15 = false ∧ deck.pins.rampB.getLsbD 15 = false ∧ deck.pins.ramp 15 .a ≠ true) ∧
    (∀ s ∈ [ramp false true 3 false, ramp true false (-3) false, ramp true true 2 false, ramp false false 0 false],
      s.control.resetHeld = false ∧ ∃ p ∈ s.pairs, p.2.settle = some 1024#32 ∧ Time.reached s.deckTime 1024#32 = true) ∧
    (phaseOf false false = 0 ∧ phaseOf false true = 3 ∧ phaseOf true false = 1 ∧ phaseOf true true = 2) := by decide +kernel

theorem witness_CrossingMovesCounts :
    (∃ c : PairCfg, c.upper ≠ .level c.lower ∧ ∃ u l, c.upper = .level u ∧ (ramp false true 3 false).levels.find u = some l) ∧
    (∃ l, (ramp false true 3 false).levels.find 3 = some l) ∧ (ramp false true 3 false).rows.rising = true :=
  ⟨⟨{ upper := .level 2, lower := 3 }, by decide, 2, _, rfl, rfl⟩, ⟨_, rfl⟩, by decide +kernel⟩

/-- Level 4 with no pair bounding it is idle at once; level 3 with a pair at phase 2 is not. -/
theorem witness_CensusIsTaken :
    (Ready deck .supervisor = true ∧ deck.inRun = true ∧ (∃ l, deck.levels.find 4 = some l ∧ l.pending = false) ∧
      deck.levels.find 7 = none ∧ ∀ p ∈ deck.pairs, p.2.filteredA = false) ∧
    (Ready (ramp true true 2 false) .supervisor = true ∧
      ∃ p ∈ (ramp true true 2 false).pairs, p.2.cfg.lower = 3 ∧ p.2.filteredA = true) ∧
    (∃ l : Level, l.pending = true) ∧
    (∃ (s : State) (e : Time), s.control.resetHeld = false ∧ s.censusStart = some e ∧ Time.reached s.deckTime e = true ∧
      Time.reached s.deckTime s.censusMinute = true) ∧
    ∃ (s : State) (l : Level) (started : Time), s.control.resetHeld = false ∧ s.levels.find 4 = some l ∧
      l.drift = .timing started ∧ Time.reached s.deckTime (Time.plus started (l.cfg.driftTime * 10)) = true :=
  ⟨⟨by decide +kernel, by decide +kernel, ⟨_, rfl, by decide +kernel⟩, by decide +kernel⟩, by decide +kernel,
   ⟨{ level 0 with pending := true }, rfl⟩,
   ⟨{ State.reset with deckTime := 600#32 }, _, by decide +kernel, rfl, by decide +kernel⟩,
   ⟨deck.modLevel 4 (fun l => { l with count := 106, drift := .timing 14000#32 }), _, _, by decide +kernel, rfl, rfl,
    by decide +kernel⟩⟩

theorem witness_LightLevelsWritten :
    (Ready deck .supervisor = true ∧ deck.writing = false) ∧ (64 ≤ 64 ∧ 64 ≠ 255 ∧ 64 ≤ 254) ∧
    deck.rows ≠ [] ∧ (deck.rows.find 30).isSome = true ∧ (deck.rows.find 63).isSome = false ∧ State.reset.rows = [] := by
  decide +kernel

/-- A rise that fits the allowance and one that does not. -/
theorem witness_RowTimersStep :
    (∃ (s : State) (r : Row) (e : Time), s.rows.find 30 = some r ∧ r.lightTimer = some e ∧ Time.reached s.deckTime e = true) ∧
    (∃ (s : State) (r : Row) (e : Time), s.rows.find 30 = some r ∧ r.step = .rising e ∧ Time.reached s.deckTime e = true) ∧
    ∃ (s : State) (r : Row) (e : Time), s.rows.find 30 = some r ∧ r.step = .fading e ∧ Time.reached s.deckTime e = true :=
  ⟨⟨deck.modRow 30 (fun r => { r with lightTimer := some 20000#32 }), _, _, rfl, rfl, by decide +kernel⟩,
   ⟨deck.modRow 30 (fun r => { r with granted := 100, step := .rising 20000#32 }), _, _, rfl, rfl, by decide +kernel⟩,
   ⟨deck.modRow 30 (fun r => { r with commanded := 40, step := .fading 20000#32 }), _, _, rfl, rfl, by decide +kernel⟩⟩

theorem witness_OverridesAndAirTimers :
    (Ready deck .supervisor = true ∧ deck.inRun = true ∧ deck.zones.find 11 = none) ∧
    (∃ z, deck.zones.find 7 = some z ∧ z.override = none) ∧
    (∃ (s : State) (z : Zone) (o : Override), Ready s .supervisor = true ∧ s.inRun = true ∧ s.zones.find 7 = some z ∧
      z.override = some o) ∧
    Time.reached 600#32 State.reset.airMinute = true ∧
    (∃ (s : State) (z : Zone) (e : Time), s.zones.find 8 = some z ∧ z.dwell = some e ∧ Time.reached s.deckTime e = true) ∧
    ∃ (s : State) (z : Zone) (o : Override), s.zones.find 7 = some z ∧ z.override = some o ∧
      Time.reached s.deckTime o.expires = true :=
  ⟨by decide +kernel, ⟨_, rfl, by decide +kernel⟩,
   ⟨deck.modZone 7 (fun z => { z with override := some { demand := 80, expires := 30000#32 } }), _, _, by decide +kernel,
    by decide +kernel, rfl, rfl⟩,
   by decide +kernel, ⟨deck.modZone 8 (fun z => { z with dwell := some 20000#32 }), _, _, rfl, rfl, by decide +kernel⟩,
   ⟨deck.modZone 7 (fun z => { z with override := some { demand := 80, expires := 20000#32 } }), _, _, rfl, rfl,
    by decide +kernel⟩⟩

/-- Zones in FAILSAFE, at a value that passes the test of stage 4, and with every value at 0. -/
theorem witness_StagesFollowTests :
    (defaultStageTable.stages.length = 4 ∧ stageTableFits defaultStageTable.stages 20 180 = true ∧
      (∃ r, defaultStageTable.stages[3]? = some r) ∧
      entryTest defaultStageTable { zone 4 1 with coInst := 100 } 2 = true) ∧
    (∃ (s : State) (z : Zone), s.zones.find 8 = some z ∧ z.failsafe = true ∧ z.stage ≤ 4) ∧
    (∃ (s : State) (z : Zone), s.zones.find 8 = some z ∧ z.failsafe = false ∧ z.stage < 4 ∧
      entryTest s.stageTable z 4 = true) ∧
    ∃ z, deck.zones.find 8 = some z ∧ z.failsafe = false ∧
      ∀ k ∈ [1, 2, 3, 4], entryTest deck.stageTable z k = false :=
  ⟨⟨by decide +kernel, by decide +kernel, ⟨_, rfl⟩, by decide +kernel⟩,
   ⟨deck.modZone 8 (fun z => { z with failsafe := true }), _, rfl, by decide +kernel⟩,
   ⟨deck.modZone 8 (fun z => { z with coInst := 200 }), _, rfl, by decide +kernel⟩,
   ⟨_, rfl, by decide +kernel⟩⟩

theorem witness_GasRepliesAreConverted :
    (∃ r : RawReading, r.flags.satCo = false ∧ r.flags.satNo2 = true ∧ r.co = 410) ∧
    stageTableFits defaultStageTable.stages 20 180 = true ∧ defaultStageTable.stages.length = 4 ∧
    (∃ (s : State) (h : Head), s.heads.find 31 = some h) ∧ deck.heads.find 31 = none :=
  ⟨⟨{ co := 410, no2 := 4095, flags := { satCo := false, satNo2 := true, warmup := false, sensorFault := false } },
     by decide⟩, by decide +kernel, by decide,
   ⟨{ deck with heads := [(31, Head.fresh { zone := 7, coOffset := 0, coGain := 1, no2Offset := 0, no2Gain := 8191 })] }, _, rfl⟩,
   by decide +kernel⟩

/-- Zone 7 with head 5 VALID, without a head, and without one in FAILSAFE; sums one reply below their wrap. -/
theorem witness_ZonesFollowHeads :
    (∃ z, gassed.zones.find 7 = some z ∧ z.failsafe = false ∧
      ∃ p ∈ gassed.heads, p.2.cfg.zone = 7 ∧ p.2.health = .valid) ∧
    (∃ z, deck.zones.find 7 = some z ∧ z.failsafe = false ∧ deck.heads = []) ∧
    (∃ (s : State) (z : Zone), s.zones.find 7 = some z ∧ z.failsafe = true ∧ s.heads = []) ∧
    (∃ h, gassed.heads.find 5 = some h) ∧
    ∃ (s : State) (z : Zone), s.zones.find 7 = some z ∧ z.coInst = 1000 ∧ z.coSum + z.coInst < 2 ^ 32 ∧
      z.no2Sum + z.no2Inst < 2 ^ 32 ∧ z.samples + 1 < 2 ^ 32 :=
  ⟨⟨_, rfl, by decide +kernel⟩, ⟨_, rfl, by decide +kernel⟩,
   ⟨deck.modZone 7 (fun z => { z with failsafe := true }), _, rfl, by decide +kernel⟩, ⟨_, rfl⟩,
   ⟨deck.modZone 7 (fun z => { z with coInst := 1000, coSum := 4294966295 }), _, rfl, by decide +kernel⟩⟩

theorem witness_FlowPatternTurnsFans :
    (∃ s : State, Ready s .supervisor = true ∧ s.inRun = true ∧ s.writing = false ∧ s.fans.rising = true ∧
      (∃ z, s.zones.find 1 = some z) ∧ s.zones.find 11 = none ∧ ∃ f ∈ s.fans, f.2.cfg.zone = 1 ∧ f.2.cfg.reversible = true) ∧
    11 < 12 ∧ 1 < 2 :=
  ⟨⟨oneFan { fan 1 22000 1 25 80 with state := .steady, commanded := 78 }, by decide +kernel, by decide +kernel,
    by decide +kernel, by decide +kernel, ⟨_, rfl⟩, by decide +kernel⟩, by decide⟩

/-- A fan in each state the service commands speak of, with its input released or asserted. -/
theorem witness_FanServiceCommands :
    (∀ state ∈ [FanState.faulted, .isolated, .steady],
      let s := oneFan { fan 1 22000 1 25 80 with state := state }
      Ready s .supervisor = true ∧ s.pins.fanFault.getLsbD 3 = false ∧ ∃ f ∈ s.fans, f.2.state = state) ∧
    (∃ s : State, s.pins.fanFault.getLsbD 3 = true) ∧
    ∃ (s : State) (f : Fan), Ready s .supervisor = true ∧ s.inRun = false ∧ s.workingCopy.fans.has 3 = true ∧
      s.fans.find 3 = some f ∧ f.state = .held ∧ f.cfg.start ≤ f.cfg.maxSpeed :=
  ⟨by decide +kernel, ⟨{ deck with pins := { deck.pins with fanFault := 8#24 } }, by decide +kernel⟩,
   ⟨{ oneFan { fan 1 22000 1 25 80 with state := .held } with
      control :=
        { deck.control with mode := .config, working := some (oneFan { fan 1 22000 1 25 80 with state := .held }).inForce } },
    _, by decide +kernel, by decide +kernel, by decide +kernel, rfl, by decide +kernel⟩⟩

theorem witness_FanTimersStep :
    ∀ state ∈ [FanState.accelerating, .decelerating, .reversingDown, .reverseDwell],
      let s := oneFan { fan 1 22000 1 25 80 with state := state, timer := some 0#32 }
      s.control.resetHeld = false ∧ ∃ f ∈ s.fans, f.2.state = state ∧ f.2.timer = some 0#32 ∧
        Time.reached s.deckTime 0#32 = true := by decide +kernel

theorem witness_FaultInputsFaultFans :
    ∃ (s : State) (f : Fan), s.control.resetHeld = false ∧ s.fans.find (3 : Fin 24) = some f ∧ f.state ≠ .faulted ∧
      f.state ≠ .isolated ∧ s.fans.find (23 : Fin 24) = none :=
  ⟨oneFan (fan 1 22000 1 25 80), _, by decide +kernel, rfl, by decide +kernel⟩

theorem witness_FanPowerFollowsCube :
    (∃ f : Fan, f.commanded ≤ f.floor) ∧ ∀ rated ∈ [22000, 15000, 8000], ∃ f ∈ [fan 1 rated 1 25 80], f.cfg.rated = rated :=
  ⟨⟨fan 1 22000 1 25 80, by decide⟩, by decide +kernel⟩

/-- The worked allocation at 25,000 W, and at an allowance equal to the floor total. -/
theorem witness_DivisionTakesLargestScales :
    LoadsFit plant = true ∧ plant.floorSum < plant.supply.normal ∧ plant.floorSum ≤ 4288 := by decide +kernel

/-- The worked allocation, and with a grant above their floors the start of fan 1 and the rise of row 0 in it. -/
theorem witness_PowerStaysWithinAllowance :
    LoadsFit plant = true ∧
    ∃ (s : State) (r r' : Row) (f f' : Fan), s.fans.rising = true ∧ s.rows.rising = true ∧ s.rows.find 0 = some r ∧
      (rowRise 0 s).rows.find 0 = some r' ∧ s.rowDraw r < s.rowDraw r' ∧ s.rowFloorDraw r < s.rowDraw r' ∧
      s.fans.find 1 = some f ∧ f.isLoad = true ∧ (fanRise 1 30 s).fans.find 1 = some f' ∧ f.draw < f'.draw ∧
      f.floorDraw < f'.draw :=
  ⟨by decide +kernel, plant.modRow 0 (fun r => { r with granted := 40 }), _, _, _, _, by decide +kernel, by decide +kernel,
   rfl, rfl, by decide +kernel, by decide +kernel, rfl, by decide +kernel, rfl, by decide +kernel⟩

theorem witness_GrantsMoveStates :
    (∃ r : Row, r.step ≠ .frozen ∧ r.commanded < 100) ∧
    ∀ state ∈ [FanState.stopped, .accelerating, .steady, .decelerating, .reversingDown, .reverseDwell, .faulted, .isolated,
        .held], ∃ f ∈ (oneFan { fan 1 22000 1 25 80 with state := state, commanded := 50 }).fans, f.2.state = state :=
  ⟨⟨row 4 7 (.pair 5) 160 100, by decide +kernel⟩, by decide +kernel⟩

/-- A walk at the last of three entries; a pending band; a row node with its row and without; a sign of two levels. -/
theorem witness_TransactionsAreBuilt :
    (∃ s : State, s.loop.state = .running ∧ s.loop.pollList = [12, 133] ++ 160 :: [] ∧ s.loop.next = [12, 133].length + 1) ∧
    (deck.loop.state ≠ .running ∨ deck.loop.pollList = []) ∧
    (∃ (s : State) (p : PendingBand), s.pendingBand 127 = some p) ∧ deck.pendingBand 12 = none ∧
    (deck.rows.find 30 = some (row 4 7 (.pair 5) 160 30) ∧ ∀ q ∈ deck.rows, q.2.cfg.node = 160 → q.1 = 30) ∧
    (∀ q ∈ deck.rows, q.2.cfg.node ≠ 223) ∧
    (signs.levels.rising = true ∧ (∃ l, signs.levels.find 3 = some l ∧ l.cfg.sign2 = some 224) ∧
      ∀ q ∈ signs.levels, (q.2.cfg.sign1 = some 224 ∨ q.2.cfg.sign2 = some 224) → 3 ≤ q.1) ∧
    ∀ q ∈ signs.levels, q.2.cfg.sign1 ≠ some 239 ∧ q.2.cfg.sign2 ≠ some 239 :=
  ⟨⟨{ deck with loop := { deck.loop with state := .running, pollList := [12, 133, 160], next := 3 } }, by decide +kernel⟩,
   by decide +kernel,
   ⟨{ deck with loop := { deck.loop with pendingBands := [(127, { counted := true, band := 2 })] } }, _, rfl⟩,
   by decide +kernel, by decide +kernel, by decide +kernel, ⟨by decide +kernel, ⟨_, rfl, by decide +kernel⟩, by decide +kernel⟩,
   by decide +kernel⟩

/-- A fan in force and a channel without one, with RESET_N high and low; a request going out and one that is out; a port with
a response fixed and with the empty frame. -/
theorem witness_OutputsFollowState :
    (held.control.resetHeld = true ∧ plant.control.resetHeld = false ∧ plant.fans.find 1 = some (fan 1 22000 1 25 80) ∧
      plant.fans.find 23 = none) ∧
    ((polling gasPoll).loop.current = some gasPoll ∧ gasPoll.sent = true ∧ (polling gasPoll).control.resetHeld = false) ∧
    (∃ (s : State) (r : Transaction), s.control.resetHeld = false ∧ s.loop.current = some r ∧ r.sent = false) ∧
    deck.loop.current = none ∧
    (∃ (s : State) (r : Response), s.control.resetHeld = false ∧ (s.port .lane).transaction = .active (some r) false) ∧
    ∃ s : State, s.control.resetHeld = false ∧ (s.port .lane).transaction = .active none false :=
  ⟨by decide +kernel, by decide +kernel, ⟨polling { gasPoll with sent := false }, _, by decide +kernel, rfl, rfl⟩,
   by decide +kernel,
   ⟨withLane { twoResponses with transaction := .active (twoResponses.responses.head?) false }, _, by decide +kernel, rfl⟩,
   ⟨withLane { twoResponses with transaction := .active none false }, by decide +kernel⟩⟩

/-- A POLL_GAS in flight while RUNNING, with 7 and 8 of its 8 characters, and a drain with nothing in flight. -/
theorem witness_FieldTransactionsEnd :
    ((polling gasPoll).loop.current = some gasPoll ∧ gasPoll.sent = true ∧ (polling gasPoll).control.resetHeld = false ∧
      gasPoll.received.length + 7 < gasPoll.request.replyLength ∧ gasPoll.received.length + 8 = gasPoll.request.replyLength) ∧
    ∃ s : State, s.loop.current = none ∧ s.loop.state = .draining :=
  ⟨by decide +kernel, ⟨{ deck with loop := { deck.loop with state := .draining } }, by decide +kernel⟩⟩

theorem witness_OutcomesGiveHealth :
    (∃ bytes : List Byte, 4095 < leNat ((bytes.drop 1).take 2)) ∧
    (∃ r : HealthRecord, r.failures < 65535 ∧ r.health ≠ .fault ∧ (r.after 0#32 .noReply).health = .fault) ∧
    (∃ r : HealthRecord, r.health = .fault ∧ (r.after 0#32 .ok).health ≠ .fault) ∧ deck.loop.health.rising = true ∧
    (∃ r : HealthRecord, 65535 ≤ r.failures) ∧
    ∃ r : HealthRecord, r.health = .missing ∧ (r.after 0#32 .ok).health = .ok :=
  ⟨⟨[133, 0, 16, 0, 0, 0], by decide +kernel⟩,
   ⟨{ health := .missing, failures := 2, lastOutcome := some .noReply, lastOk := none }, by decide⟩,
   ⟨{ health := .fault, failures := 3, lastOutcome := some .noReply, lastOk := none }, by decide⟩, by decide +kernel,
   ⟨{ health := .fault, failures := 65535, lastOutcome := some .noReply, lastOk := none }, by decide⟩,
   ⟨{ health := .missing, failures := 2, lastOutcome := some .noReply, lastOk := none }, by decide⟩⟩

/-- A bay in each sensed state at the ends of its runs, and deviations at the ends of the tracking window. -/
theorem witness_SamplesAreClassified :
    (∀ sensed ∈ [Sensed.vacant, .present, .unknown], ∃ b ∈ [{ bay 30 0 0 1200 sensed with onRun := 2, offRun := 4 }],
      b.cfg.offThr < b.cfg.onThr ∧ b.onRun ≤ 2 ∧ b.offRun ≤ 4 ∧ b.sensed = sensed) ∧
    (∃ (s : State) (b : Bay), s.bays.find 600 = some b ∧ b.cfg.reference (s.bandRecord b.cfg.node).band = none) ∧
    (∃ (b : Bay) (ref : Nat), deck.bays.find 600 = some b ∧ b.learning = false ∧
      b.cfg.reference (deck.bandRecord b.cfg.node).band = some ref ∧ b.sampleState 12050 = b.sensed ∧
      ((b.sampled 120 12050).window.filter id).length < 4) ∧
    (∃ b : Bay, b.sampleState 12400 ≠ b.sensed) ∧
    (400 / 2 ≤ (200 : Int).natAbs ∧ (199 : Int).natAbs < 400 / 2 ∧ (-199 : Int).natAbs < 400 / 2) :=
  ⟨by decide +kernel, ⟨{ deck with bands := [(12, { band := 1, changes := [] })] }, _, rfl, by decide +kernel⟩,
   ⟨_, 12000, rfl, by decide +kernel⟩, ⟨{ bay 30 0 0 1200 .vacant with onRun := 2 }, by decide +kernel⟩, by decide⟩

/-- Bays that learn, at three samples and at four; a VACANT bay at its third invalid sample; and the FAULT of node 12. -/
theorem witness_BaysLearnAndFail :
    deck.bays.find 0 = none ∧
    (∃ (s : State) (b : Bay), s.bays.find 600 = some b ∧ min 3 (b.invalidRun + 1) = 3 ∧ b.sensed ≠ .unknown) ∧
    (∃ b, deck.bays.find 600 = some b ∧ min 3 (b.invalidRun + 1) < 3) ∧
    (∃ (s : State) (b : Bay), s.bays.find 600 = some b ∧ b.learning = true ∧ b.learnProgress + 1 < 4 ∧
      b.cfg.reference (s.bandRecord b.cfg.node).band = some 12000) ∧
    (∃ (s : State) (b : Bay), s.bays.find 600 = some b ∧ b.learning = true ∧ 4 ≤ b.learnProgress + 1 ∧
      b.cfg.reference (s.bandRecord b.cfg.node).band = some 12000) ∧
    12 < 128 ∧ deck.bays.rising = true :=
  ⟨by decide +kernel, ⟨deck.modBay 600 (fun b => { b with invalidRun := 2 }), _, rfl, by decide +kernel⟩,
   ⟨_, rfl, by decide +kernel⟩,
   ⟨deck.modBay 600 (fun b => { b with learning := true, learnProgress := 2 }), _, rfl, by decide +kernel⟩,
   ⟨deck.modBay 600 (fun b => { b with learning := true, learnProgress := 3 }), _, rfl, by decide +kernel⟩,
   by decide +kernel⟩

/-- With bay 600 HELD its own arrival meets the hold, and that of bay 602 of its row meets it by substitution. -/
theorem witness_SensedChangesAreWhole :
    (∃ b, deck.bays.find 600 = some b ∧ b.sensed ≠ .present ∧ b.admin = .opened ∧ deck.guidance.substitution = true) ∧
    (∃ b t h, holding.bays.find 600 = some b ∧ b.sensed ≠ .present ∧ b.admin = .held t ∧
      findHold holding.guidance.holds t = some h ∧ h.bay = 600) ∧
    (∃ b, holding.bays.find 602 = some b ∧ b.admin = .opened ∧ b.sensed = .vacant ∧ holding.guidance.substitution = true ∧
      ∃ h, holding.guidance.holds = [h] ∧ ∃ x, holding.bays.find h.bay = some x ∧ x.cfg.row = b.cfg.row ∧
        x.sensed = .vacant) ∧
    (∃ (s : State) (b : Bay), s.bays.find 600 = some b ∧ b.sensed ≠ .present ∧ b.admin = .closed) ∧
    ∃ r, deck.rows.find 30 = some r :=
  ⟨⟨_, rfl, by decide +kernel⟩, ⟨_, _, _, rfl, by decide +kernel, rfl, rfl, rfl⟩,
   ⟨_, rfl, by decide +kernel, by decide +kernel, by decide +kernel, _, rfl, _, rfl, by decide +kernel⟩,
   ⟨setAdmin 600 .closed deck, _, rfl, by decide +kernel⟩, ⟨_, rfl⟩⟩

/-- Node 12 at band 0: band 1 has no reference, band 2 has; with three changes 599.9 s old the limit stands. -/
theorem witness_BandChangesAreSettled :
    (¬ 3 ≤ ((deck.bandRecord 12).changes.filter fun t => decide (Time.since deck.deckTime t < 6000)).length) ∧
    (∃ p ∈ deck.bays, p.2.cfg.node = 12 ∧ (p.2.cfg.reference 1).isSome = false) ∧
    (∀ p ∈ deck.bays, p.2.cfg.node = 12 → (p.2.cfg.reference 2).isSome = true) ∧
    (∃ s : State, 3 ≤ ((s.bandRecord 12).changes.filter fun t => decide (Time.since s.deckTime t < 6000)).length) ∧
    (∃ (s : State) (p : PendingBand) (bytes : List Byte), s.pendingBand 12 = some p ∧ (bytes.getD 1 0#8).toNat = p.band) ∧
    deck.bands.rising = true :=
  ⟨by decide +kernel, by decide +kernel, by decide +kernel,
   ⟨{ deck with bands := [(12, { band := 2, changes := [14001#32, 14001#32, 14001#32] })] }, by decide +kernel⟩,
   ⟨{ deck with loop := { deck.loop with pendingBands := [(12, { counted := true, band := 2 })] } }, _, [12, 2], rfl,
    by decide +kernel⟩, by decide +kernel⟩

end Sys2Proof.Machine.Test
end

section
/-! Samples of a bay (chapter 1): the table of R7, baseline tracking (R11), and which branch a sample takes (R2, R4). -/

namespace Sys2Proof.Machine

/-! ### The table of R7 -/

/-- R8 and R9: the on run ends at its third sample, in a bay that is not PRESENT. -/
theorem classify_of_on_le {sensed : Sensed} (onRun offRun : Nat) {d onThr : Int} (offThr : Int)
    (hs : sensed ≠ .present) (hd : onThr ≤ d) :
    classify sensed onRun offRun d onThr offThr = if onRun = 2 then (0, 0, .present) else (onRun + 1, 0, sensed) := by
  cases sensed with
  | present => exact absurd rfl hs
  | vacant | unknown => simp [classify, hd]

/-- R9 and R10: the off run ends at its fifth sample, in a bay that is not VACANT. -/
theorem classify_of_lt_off {sensed : Sensed} (onRun offRun : Nat) {d onThr offThr : Int}
    (hs : sensed ≠ .vacant) (hthr : offThr < onThr) (hd : d < offThr) :
    classify sensed onRun offRun d onThr offThr = if offRun = 4 then (0, 0, .vacant) else (0, offRun + 1, sensed) := by
  have hon : ¬ onThr ≤ d := by omega
  cases sensed with
  | vacant => exact absurd rfl hs
  | present | unknown => simp [classify, hd, hon]

/-- A sample that counts toward neither change clears both runs. -/
theorem classify_of_no_run {sensed : Sensed} (onRun offRun : Nat) {d onThr offThr : Int}
    (hon : onThr ≤ d → sensed = .present) (hoff : d < offThr → sensed = .vacant) :
    classify sensed onRun offRun d onThr offThr = (0, 0, sensed) := by
  cases sensed with
  | vacant =>
    have hlow : d < onThr := by simpa using hon
    simp [classify, hlow.not_ge]
  | present =>
    have hhigh : offThr ≤ d := by simpa using hoff
    simp [classify, hhigh.not_gt]
  | unknown =>
    have hlow : d < onThr := by simpa using hon
    have hhigh : offThr ≤ d := by simpa using hoff
    simp [classify, hlow.not_ge, hhigh.not_gt]

/-- What a sample leaves of a bay's runs, and the sensed state it leads to. -/
def Bay.SampleLeaves (b : Bay) (jitter c onRun offRun : Nat) (sensed : Sensed) : Prop :=
  (b.sampled jitter c).onRun = onRun ∧ (b.sampled jitter c).offRun = offRun ∧ b.sampleState c = sensed

theorem Bay.sampleLeaves_of_classify {b : Bay} {jitter c onRun offRun : Nat} {sensed : Sensed}
    (h : classify b.sensed b.onRun b.offRun ((c : Int) - b.baseline) b.cfg.onThr b.cfg.offThr = (onRun, offRun, sensed)) :
    b.SampleLeaves jitter c onRun offRun sensed := by
  simp [Bay.SampleLeaves, Bay.sampled, Bay.sampleState, h]

theorem Bay.sampleLeaves_of_on_le {b : Bay} (jitter : Nat) {c : Nat} {old : Sensed}
    (hb : b.sensed = old) (hs : old ≠ .present) (hd : (b.cfg.onThr : Int) ≤ (c : Int) - b.baseline) :
    if b.onRun = 2 then b.SampleLeaves jitter c 0 0 .present else b.SampleLeaves jitter c (b.onRun + 1) 0 old := by
  subst hb
  have hc := classify_of_on_le b.onRun b.offRun b.cfg.offThr hs hd
  split
  next hrun => exact sampleLeaves_of_classify (hc.trans (if_pos hrun))
  next hrun => exact sampleLeaves_of_classify (hc.trans (if_neg hrun))

theorem Bay.sampleLeaves_of_lt_off {b : Bay} (jitter : Nat) {c : Nat} {old : Sensed}
    (hb : b.sensed = old) (hs : old ≠ .vacant) (hthr : b.cfg.offThr < b.cfg.onThr)
    (hd : (c : Int) - b.baseline < b.cfg.offThr) :
    if b.offRun = 4 then b.SampleLeaves jitter c 0 0 .vacant else b.SampleLeaves jitter c 0 (b.offRun + 1) old := by
  subst hb
  have hc := classify_of_lt_off b.onRun b.offRun hs (Int.ofNat_lt.2 hthr) hd
  split
  next hrun => exact sampleLeaves_of_classify (hc.trans (if_pos hrun))
  next hrun => exact sampleLeaves_of_classify (hc.trans (if_neg hrun))

theorem Bay.sampleLeaves_of_no_run {b : Bay} (jitter : Nat) {c : Nat} {old : Sensed} (hb : b.sensed = old)
    (hon : (b.cfg.onThr : Int) ≤ (c : Int) - b.baseline → old = .present)
    (hoff : (c : Int) - b.baseline < b.cfg.offThr → old = .vacant) :
    b.SampleLeaves jitter c 0 0 old := by
  subst hb
  exact sampleLeaves_of_classify (classify_of_no_run b.onRun b.offRun hon hoff)

/-- R11: a bay VACANT before and after the sample is tracked, and no other. -/
theorem Bay.sampled_baseline (b : Bay) (jitter c : Nat) :
    (b.sampled jitter c).baseline =
      if b.sensed = .vacant ∧ b.sampleState c = .vacant then trackBaseline b.baseline c b.cfg.onThr else b.baseline :=
  if_congr (by simp [sampleState]) rfl rfl

/-! ### The branch a sample takes -/

section
variable {s : State} {n : Nat} {b : Bay}

theorem baySample_none (hfind : s.bays.find n = some b) : baySample n none s = invalidSample n b s := by
  simp [baySample, hfind]

theorem baySample_of_no_reference (hfind : s.bays.find n = some b)
    (href : b.cfg.reference (s.bandRecord b.cfg.node).band = none) (entry : Option Nat) :
    baySample n entry s = invalidSample n b s := by
  cases entry with
  | none => exact baySample_none hfind
  | some c => simp [baySample, hfind, href]

theorem baySample_of_not_learning {ref : Nat} (hfind : s.bays.find n = some b) (hlearn : b.learning = false)
    (href : b.cfg.reference (s.bandRecord b.cfg.node).band = some ref) (c : Nat) :
    baySample n (some c) s = classifiedSample n b c s := by
  simp [baySample, hfind, hlearn, href]

end

theorem classifiedSample_of_change {n c : Nat} {b : Bay} (s : State) (h : b.sampleState c ≠ b.sensed) :
    classifiedSample n b c s = senseChange n (b.sampleState c) 0 (s.modBay n fun _ => b.sampled s.jitter c) := by
  simp [classifiedSample, h]

/-- The noise test of R12 is for VACANT bays with four jumpy entries or more. -/
theorem classifiedSample_of_quiet {n c : Nat} {b : Bay} {s : State} (h : b.sampleState c = b.sensed)
    (hquiet : b.sensed ≠ .vacant ∨ jumpyCount (b.sampled s.jitter c).window < 4) :
    classifiedSample n b c s = s.modBay n fun _ => b.sampled s.jitter c := by
  have hnoise : ¬ (b.sensed = .vacant ∧ 4 ≤ jumpyCount (b.sampled s.jitter c).window) := by
    rintro ⟨hvacant, hjumpy⟩
    exact hquiet.elim (absurd hvacant) hjumpy.not_gt
  simp [classifiedSample, h, hnoise]

theorem jumpyCount_eq_length_filter (w : List Bool) : jumpyCount w = (w.filter id).length := List.countP_eq_length_filter

/-! ### Baseline tracking (R11) -/

theorem trackStep_of_small {d : Int} (h1 : 1 ≤ d) (h15 : d ≤ 15) : trackStep d = 1 := by
  have hfloor : d / 16 = 0 := by omega
  have hne : d ≠ 0 := by omega
  simp [trackStep, hfloor, hne]

theorem trackStep_of_floor {d : Int} (h : d ≤ 0 ∨ 16 ≤ d) : trackStep d = d / 16 := by
  have hkeep : ¬ (d / 16 = 0 ∧ d ≠ 0) := by omega
  exact if_neg hkeep

/-- The step lies between 0 and the deviation: the tracked baseline never passes the count. -/
theorem trackStep_between (d : Int) : (0 ≤ trackStep d ∧ trackStep d ≤ d) ∨ (d ≤ trackStep d ∧ trackStep d ≤ 0) := by
  by_cases hsmall : 1 ≤ d ∧ d ≤ 15
  · rw [trackStep_of_small hsmall.1 hsmall.2]
    omega
  · rw [trackStep_of_floor (by omega)]
    omega

theorem trackBaseline_outside {baseline c onThr : Nat} (h : onThr / 2 ≤ ((c : Int) - baseline).natAbs) :
    trackBaseline baseline c onThr = baseline := by
  simp [trackBaseline, h.not_gt]

/-- The step ends between two 16-bit values, so the clamp of R11 never acts. -/
theorem trackBaseline_inside {baseline c onThr : Nat} (hbase : baseline ≤ 65535) (hc : c ≤ 65535)
    (h : ((c : Int) - baseline).natAbs < onThr / 2) :
    (trackBaseline baseline c onThr : Int) = baseline + trackStep ((c : Int) - baseline) := by
  have hstep := trackStep_between ((c : Int) - baseline)
  simp only [trackBaseline, if_pos h]
  omega

/-! ### O57 -/

/-- Settles O57: the table of R7 cell by cell through `classify`, the branch of the sample, and the tracking step. -/
theorem samplesAreClassified : Obligations.SamplesAreClassified := by
  unfold Obligations.SamplesAreClassified
  refine ⟨fun jitter c b => ?table, ?noReference, ?taken, fun baseline c onThr hbase hc => ?tracking⟩
  case table =>
    intro d on off b' next leaves hthr _ _
    refine ⟨fun hb hon => ?_, fun hb hlow => ?_, fun hb hon => ?_, fun hb hoff hlow => ?_, fun hb hlow => ?_,
      fun hb hoff => ?_, fun hb hlow => ?_, b.sampled_baseline jitter c⟩
    · exact b.sampleLeaves_of_on_le jitter hb (by decide) hon
    · exact b.sampleLeaves_of_no_run jitter hb (absurd · hlow.not_ge) fun _ => rfl
    · exact b.sampleLeaves_of_on_le jitter hb (by decide) hon
    · exact b.sampleLeaves_of_no_run jitter hb (absurd · hlow.not_ge) (absurd · hoff.not_gt)
    · exact b.sampleLeaves_of_lt_off jitter hb (by decide) hthr hlow
    · exact b.sampleLeaves_of_no_run jitter hb (fun _ => rfl) (absurd · hoff.not_gt)
    · exact b.sampleLeaves_of_lt_off jitter hb (by decide) hthr hlow
  case noReference =>
    intro s n c b hfind href
    rw [baySample_of_no_reference hfind href, baySample_none hfind]
  case taken =>
    intro s n c ref b hfind hlearn href b'
    rw [baySample_of_not_learning hfind hlearn href]
    refine ⟨classifiedSample_of_change s, fun hkeep hquiet => classifiedSample_of_quiet hkeep ?_⟩
    rwa [jumpyCount_eq_length_filter]
  case tracking =>
    intro d b'
    refine ⟨fun hout => congrArg Nat.cast (trackBaseline_outside hout), fun hin => ?_⟩
    have hb' : b' = baseline + trackStep d := trackBaseline_inside hbase hc hin
    have hbetween := trackStep_between d
    have hd : d = c - baseline := rfl
    refine ⟨fun hzero => ?_, fun h1 h15 => ?_, fun hfar => ?_, ?_, ?_, ?_⟩
    · rw [hb', trackStep_of_floor (by omega)]
      omega
    · rw [hb', trackStep_of_small h1 h15]
    · rw [hb', trackStep_of_floor (by omega)]
      omega
    all_goals omega

end Sys2Proof.Machine
end

section
/-! Reads of records and lists (R184, R185, R72, R53): contents as the fields of their tables, and the answer of each
read. -/

namespace Sys2Proof.Machine

/-! ### Contents as fields -/

@[simp] theorem joinFields_nil (values : List Nat) : joinFields [] values = [] := rfl

@[simp] theorem joinFields_cons (w v : Nat) (widths values : List Nat) :
    joinFields (w :: widths) (v :: values) = leBytes w v ++ joinFields widths values := rfl

theorem pageCounts_eq_joinFields {α : Type} (l : List α) (page : Nat) :
    pageCounts l page = joinFields [1, 1, 1] [l.length, page, (pageOf l page).length] := by
  simp [pageCounts]

theorem Request.bytes_eq_joinFields :
    Request.bytes = fun r =>
      joinFields [2, 2, 2, 2, 2, 4, 4]
        [r.ticket, Station.code r.station, r.cls, r.lane, bit r.priority, r.enqueued.toNat, r.deadline.toNat] := by
  funext r
  simp [Request.bytes]

theorem Hold.bytes_eq_joinFields :
    Hold.bytes = fun h =>
      joinFields [2, 2, 2, 2, 2, 4, 4]
        [h.ticket, h.bay, Station.code h.station, h.cls, h.level, h.issued.toNat, h.expiry.toNat] := by
  funext h
  simp [Hold.bytes]

theorem recordContents_eq_joinFields (kind number part : Nat) (words : List Nat) :
    recordContents kind number part words =
      joinFields [1, 2, 1, 2] [kind, number, part, words.length] ++
        ((words.drop (72 * part)).take 72).flatMap fun w => leBytes 2 w := by
  simp [recordContents]

/-! ### The reads -/

section
variable {s : State} {kind number part : Nat}

theorem doReadRecord_of_not_fits (hfits : readFits kind number part = false) :
    doReadRecord kind number part s = refuse s .badArgument := by
  simp [doReadRecord, hfits]

theorem doReadRecord_of_no_record (hfits : readFits kind number part = true) (hread : readOut s kind number = none) :
    doReadRecord kind number part s = refuse s .notFound := by
  simp [doReadRecord, hfits, hread]

theorem doReadRecord_of_record {words : List Nat} (hfits : readFits kind number part = true)
    (hread : readOut s kind number = some words) :
    doReadRecord kind number part s = done s (recordContents kind number part words) := by
  simp [doReadRecord, hfits, hread]

end

theorem doReadQueue_eq_fields (page : Nat) (s : State) :
    doReadQueue page s =
      done s
        (joinFields [1, 1, 1] [s.guidance.queue.length, page, (pageOf s.guidance.queue page).length] ++
          (pageOf s.guidance.queue page).flatMap fun r =>
            joinFields [2, 2, 2, 2, 2, 4, 4]
              [r.ticket, Station.code r.station, r.cls, r.lane, bit r.priority, r.enqueued.toNat, r.deadline.toNat]) := by
  rw [doReadQueue, pageCounts_eq_joinFields, Request.bytes_eq_joinFields]

theorem doReadHolds_eq_fields (page : Nat) (s : State) :
    doReadHolds page s =
      done s
        (joinFields [1, 1, 1] [s.guidance.holds.length, page, (pageOf s.guidance.holds page).length] ++
          (pageOf s.guidance.holds page).flatMap fun h =>
            joinFields [2, 2, 2, 2, 2, 4, 4]
              [h.ticket, h.bay, Station.code h.station, h.cls, h.level, h.issued.toNat, h.expiry.toNat]) := by
  rw [doReadHolds, pageCounts_eq_joinFields, Hold.bytes_eq_joinFields]

theorem doQueueCount_eq_fields (st : Station) (s : State) :
    doQueueCount st s =
      done s
        (joinFields [1, 1] [s.guidance.queue.length, (s.guidance.queue.filter fun r => decide (r.station = st)).length] ++
          (s.guidance.queue.filter fun r => decide (r.station = st)).flatMap fun r =>
            joinFields [2, 1] [r.ticket, queuePosition s.guidance.queue r.ticket]) := by
  simp [doQueueCount]

/-! ### O15 -/

/-- A READ_RECORD at a port that is `Ready` answers as its block does: it is of class All. -/
theorem exec_readRecord {s s' : State} {st : Station} {tag kind number part : Nat} {status : Status} {contents : List Byte}
    (h : Ready s st = true) (he : doReadRecord kind number part s = (s', [(status, contents)])) :
    exec (.readRecord st tag kind number part) s = replies s st tag 0x04 status contents s' :=
  exec_command _ st tag (.readRecord kind number part) s s' status contents rfl h (by simp [Command.code]) rfl rfl he

/-- Settles O15: the checks of READ_RECORD case by case, and the contents of the four reads laid out by their fields. -/
theorem recordAndListReadsAnswer : Obligations.RecordAndListReadsAnswer := by
  unfold Obligations.RecordAndListReadsAnswer
  intro s st tag page kind number part h
  refine ⟨fun hfits => exec_readRecord h (doReadRecord_of_not_fits hfits),
    fun hfits hread => exec_readRecord h (doReadRecord_of_no_record hfits hread), fun words hfits hread => ?record,
    ?queue, ?holds, fun hclass => ?count⟩
  case record =>
    rw [← recordContents_eq_joinFields]
    exact exec_readRecord h (doReadRecord_of_record hfits hread)
  case queue =>
    exact exec_command _ st tag (.readQueue page) s s _ _ rfl h (by simp [Command.code]) rfl rfl
      (doReadQueue_eq_fields page s)
  case holds =>
    exact exec_command _ st tag (.readHolds page) s s _ _ rfl h (by simp [Command.code]) rfl rfl
      (doReadHolds_eq_fields page s)
  case count =>
    exact exec_command _ st tag .queueCount s s _ _ rfl h (by simp [Command.code]) hclass rfl (doQueueCount_eq_fields st s)

end Sys2Proof.Machine
end

section
/-! Claims and closures (R66, R68, R70, R71): the checks the four commands share, and what each does to a bay in force. -/

namespace Sys2Proof.Machine

/-! ### The checks of a command on a bay -/

/-- The shape of the four commands: operands that do not fit are refused, then a bay with no record, then the bay is acted on
(R176). -/
def onBay (fits : Bool) (bay : Nat) (s : State) (act : Bay → Effect) : Effect :=
  checked s [(!fits, .badArgument)]
    (match s.bays.find bay with
    | none => refuse s .notFound
    | some b => act b)

section
variable {fits : Bool} {bay : Nat} {s : State} {b : Bay}

theorem onBay_of_not_fits (hfits : fits = false) (act : Bay → Effect) :
    onBay fits bay s act = refuse s .badArgument := by
  simp [onBay, hfits]

theorem onBay_of_no_record (hfits : fits = true) (hfind : s.bays.find bay = none) (act : Bay → Effect) :
    onBay fits bay s act = refuse s .notFound := by
  simp [onBay, hfits, hfind]

theorem onBay_of_record (hfits : fits = true) (hfind : s.bays.find bay = some b) (act : Bay → Effect) :
    onBay fits bay s act = act b := by
  simp [onBay, hfits, hfind]

end

theorem within_zero_eq_true_iff {hi n : Nat} : within 0 hi n = true ↔ n ≤ hi := by
  simp [within]

theorem within_zero_eq_false_iff {hi n : Nat} : within 0 hi n = false ↔ hi < n := by
  simp [within]

theorem expectable_eq_true_iff {code : Nat} : expectable code = true ↔ code = 0 ∨ code = 2 ∨ code = 3 := by
  simp [expectable, or_assoc]

theorem expectable_eq_false_iff {code : Nat} : expectable code = false ↔ code ≠ 0 ∧ code ≠ 2 ∧ code ≠ 3 := by
  simp [expectable, and_assoc]

/-! ### The commands on a bay in force -/

/-- CLAIM_BAY on a bay in force (R68). -/
def claimFound (st : Station) (bay expected : Nat) (s : State) (b : Bay) : Effect :=
  if b.admin.code = expected then done (setAdmin bay (.claimed st) s) (leBytes 1 b.admin.code)
  else answer s .mismatch (leBytes 1 b.admin.code ++ leBytes 1 b.sensed.code)

/-- CLOSE_BAY on a bay in force: its former admin state and the ticket of the hold it ended (R70). -/
def closeFound (bay : Nat) (s : State) (b : Bay) : Effect :=
  done (closeBay bay b s).1 (leBytes 1 b.admin.code ++ leBytes 2 (closeBay bay b s).2)

/-- RELEASE_CLAIM on a bay in force (R71). -/
def releaseFound (bay : Nat) (s : State) (b : Bay) : Effect :=
  match b.admin with
  | .claimed c => done (reopenBay bay s) (leBytes 1 (Station.code c))
  | .opened | .held _ | .closed => answer s .refusedState (leBytes 1 b.admin.code)

/-- OPEN_BAY on a bay in force (R71). -/
def openFound (bay : Nat) (s : State) (b : Bay) : Effect :=
  if b.admin = .closed then done (reopenBay bay s) [] else answer s .refusedState (leBytes 1 b.admin.code)

theorem doClaimBay_eq_onBay (st : Station) (bay expected : Nat) (s : State) :
    doClaimBay st bay expected s =
      onBay (within 0 1023 bay && expectable expected) bay s (claimFound st bay expected s) := rfl

theorem doCloseBay_eq_onBay (bay : Nat) (s : State) :
    doCloseBay bay s = onBay (within 0 1023 bay) bay s (closeFound bay s) := rfl

theorem doReleaseClaim_eq_onBay (bay : Nat) (s : State) :
    doReleaseClaim bay s = onBay (within 0 1023 bay) bay s (releaseFound bay s) := rfl

theorem doOpenBay_eq_onBay (bay : Nat) (s : State) :
    doOpenBay bay s = onBay (within 0 1023 bay) bay s (openFound bay s) := rfl

section
variable {b : Bay} {bay : Nat} {s : State}

theorem claimFound_of_expected {expected : Nat} (st : Station) (hcode : b.admin.code = expected) :
    claimFound st bay expected s b = done (setAdmin bay (.claimed st) s) (leBytes 1 expected) := by
  simp [claimFound, hcode]

theorem claimFound_of_mismatch {expected : Nat} (st : Station) (hcode : b.admin.code ≠ expected) :
    claimFound st bay expected s b = answer s .mismatch (joinFields [1, 1] [b.admin.code, b.sensed.code]) := by
  simp [claimFound, hcode]

theorem closeFound_of_opened_or_claimed (hadmin : b.admin = .opened ∨ ∃ c, b.admin = .claimed c) :
    closeFound bay s b = done (setAdmin bay .closed s) (joinFields [1, 2] [b.admin.code, 0]) := by
  obtain hopened | ⟨c, hclaimed⟩ := hadmin
  · simp [closeFound, closeBay, hopened]
  · simp [closeFound, closeBay, hclaimed]

theorem closeFound_of_closed (hadmin : b.admin = .closed) :
    closeFound bay s b = done s (joinFields [1, 2] [3, 0]) := by
  simp [closeFound, closeBay, hadmin, Admin.code]

/-- R66: the hold of a HELD bay ends first, with reason CLOSED. -/
theorem closeFound_of_held {t : Nat} {h : Hold} (hadmin : b.admin = .held t) (hhold : findHold s.guidance.holds t = some h) :
    closeFound bay s b = done (settle s (allocationPass (lapseHold h .closed 2 s))) (joinFields [1, 2] [1, t]) := by
  simp [closeFound, closeBay, hadmin, hhold, Admin.code]

theorem releaseFound_of_claimed {c : Station} (hadmin : b.admin = .claimed c) :
    releaseFound bay s b = done (reopenBay bay s) (leBytes 1 (Station.code c)) := by
  simp [releaseFound, hadmin]

theorem releaseFound_of_not_claimed (hadmin : ¬ ∃ c, b.admin = .claimed c) :
    releaseFound bay s b = answer s .refusedState (leBytes 1 b.admin.code) := by
  cases hcase : b.admin with
  | claimed c => exact absurd ⟨c, hcase⟩ hadmin
  | opened | held t | closed => simp [releaseFound, hcase]

theorem openFound_of_closed (hadmin : b.admin = .closed) : openFound bay s b = done (reopenBay bay s) [] :=
  if_pos hadmin

theorem openFound_of_not_closed (hadmin : b.admin ≠ .closed) :
    openFound bay s b = answer s .refusedState (leBytes 1 b.admin.code) :=
  if_neg hadmin

end

/-! ### The rows of the commands -/

section
variable {s s' : State} {st : Station} {tag bay : Nat} {status : Status} {contents : List Byte}

theorem exec_claimBay {expected : Nat} (h : Ready s st = true) (hclass : inClass 0x38 st = true)
    (he : onBay (within 0 1023 bay && expectable expected) bay s (claimFound st bay expected s) =
      (s', [(status, contents)])) :
    exec (.claimBay st tag bay expected) s = replies s st tag 0x38 status contents s' :=
  exec_command _ st tag (.claimBay bay expected) s s' status contents rfl h (by simp [Command.code]) hclass rfl
    ((doClaimBay_eq_onBay st bay expected s).trans he)

theorem exec_closeBay (h : Ready s st = true) (hclass : inClass 0x38 st = true)
    (he : onBay (within 0 1023 bay) bay s (closeFound bay s) = (s', [(status, contents)])) :
    exec (.closeBay st tag bay) s = replies s st tag 0x3A status contents s' :=
  exec_command _ st tag (.closeBay bay) s s' status contents rfl h (by simp [Command.code]) hclass rfl
    ((doCloseBay_eq_onBay bay s).trans he)

theorem exec_releaseClaim (h : Ready s st = true) (hclass : inClass 0x38 st = true)
    (he : onBay (within 0 1023 bay) bay s (releaseFound bay s) = (s', [(status, contents)])) :
    exec (.releaseClaim st tag bay) s = replies s st tag 0x39 status contents s' :=
  exec_command _ st tag (.releaseClaim bay) s s' status contents rfl h (by simp [Command.code]) hclass rfl
    ((doReleaseClaim_eq_onBay bay s).trans he)

theorem exec_openBay (h : Ready s st = true) (hclass : inClass 0x38 st = true)
    (he : onBay (within 0 1023 bay) bay s (openFound bay s) = (s', [(status, contents)])) :
    exec (.openBay st tag bay) s = replies s st tag 0x3B status contents s' :=
  exec_command _ st tag (.openBay bay) s s' status contents rfl h (by simp [Command.code]) hclass rfl
    ((doOpenBay_eq_onBay bay s).trans he)

end

/-! ### O32 -/

/-- Settles O32: the operand check, the record check and the admin states of each command, one after another. -/
theorem claimCommandsMoveAdminState : Obligations.ClaimCommandsMoveAdminState := by
  unfold Obligations.ClaimCommandsMoveAdminState
  intro s st tag bay h hclass
  refine ⟨fun b expected hbay hfind hexp => ?claim, fun b hbay hfind => ?inForce, fun hbay hnone => ?noRecord,
    fun hbay => ?aboveRange, fun expected hunfit => ?claimUnfit⟩
  case claim =>
    have hfits : (within 0 1023 bay && expectable expected) = true := by
      simp [within_zero_eq_true_iff.2 hbay, expectable_eq_true_iff.2 hexp]
    have found := onBay_of_record hfits hfind (claimFound st bay expected s)
    exact ⟨fun hcode => exec_claimBay h hclass (found.trans (claimFound_of_expected st hcode)),
      fun hcode => exec_claimBay h hclass (found.trans (claimFound_of_mismatch st hcode))⟩
  case inForce =>
    have found := onBay_of_record (within_zero_eq_true_iff.2 hbay) hfind
    exact ⟨fun hadmin => exec_closeBay h hclass ((found _).trans (closeFound_of_opened_or_claimed hadmin)),
      fun hadmin => exec_closeBay h hclass ((found _).trans (closeFound_of_closed hadmin)),
      fun t hold hadmin hhold => exec_closeBay h hclass ((found _).trans (closeFound_of_held hadmin hhold)),
      fun c hadmin => exec_releaseClaim h hclass ((found _).trans (releaseFound_of_claimed hadmin)),
      fun hadmin => exec_releaseClaim h hclass ((found _).trans (releaseFound_of_not_claimed hadmin)),
      fun hadmin => exec_openBay h hclass ((found _).trans (openFound_of_closed hadmin)),
      fun hadmin => exec_openBay h hclass ((found _).trans (openFound_of_not_closed hadmin))⟩
  case noRecord =>
    have hfits := within_zero_eq_true_iff.2 hbay
    refine ⟨exec_closeBay h hclass (onBay_of_no_record hfits hnone _),
      exec_releaseClaim h hclass (onBay_of_no_record hfits hnone _),
      exec_openBay h hclass (onBay_of_no_record hfits hnone _), fun expected hexp => ?_⟩
    exact exec_claimBay h hclass (onBay_of_no_record (by simp [hfits, expectable_eq_true_iff.2 hexp]) hnone _)
  case aboveRange =>
    have hfits := within_zero_eq_false_iff.2 hbay
    exact ⟨exec_closeBay h hclass (onBay_of_not_fits hfits _), exec_releaseClaim h hclass (onBay_of_not_fits hfits _),
      exec_openBay h hclass (onBay_of_not_fits hfits _)⟩
  case claimUnfit =>
    refine exec_claimBay h hclass (onBay_of_not_fits ?_ _)
    obtain habove | hexp := hunfit
    · simp [within_zero_eq_false_iff.2 habove]
    · simp [expectable_eq_false_iff.2 hexp]

end Sys2Proof.Machine
end

section
/-! Air quality (chapter 5): the conversion of a reply and the health it gives its head (R97, R98), the tests of the stages and
how they nest under an accepted table (R106), and the evaluation of a zone (R107). -/

namespace Sys2Proof.Machine

/-! ### The conversion of a reading (R97) -/

section
variable (raw offset gain limit : Nat)

@[simp] theorem convertGas_of_saturated : convertGas raw offset gain limit true = limit := rfl

/-- The model's difference stops at 0, as R97 has it. -/
theorem convertGas_of_not_saturated :
    convertGas raw offset gain limit false = min limit ((max 0 ((raw : Int) - offset)).toNat * gain / 4096) := by
  have hdiff : (max 0 ((raw : Int) - offset)).toNat = raw - offset := by omega
  simp [convertGas, hdiff]

theorem convertGas_le (saturated : Bool) : convertGas raw offset gain limit saturated ≤ limit := by
  cases saturated with
  | true => exact le_rfl
  | false => exact min_le_left _ _

variable {raw offset} in
theorem convertGas_of_le_offset (h : raw ≤ offset) : convertGas raw offset gain limit false = 0 := by
  simp [convertGas, Nat.sub_eq_zero_of_le h]

end

/-! ### A head after a reply (R98) -/

section
variable {r : RawReading} (now : Time) (h : Head)

theorem Head.replied_of_sensorFault (hfault : r.flags.sensorFault = true) :
    h.replied now r = { h with raw := some r, health := .fault } := by
  simp [Head.replied, healthOfFlags, hfault]

theorem Head.replied_of_warmup (hfault : r.flags.sensorFault = false) (hwarm : r.flags.warmup = true) :
    h.replied now r = { h with raw := some r, health := .warmup } := by
  simp [Head.replied, healthOfFlags, hfault, hwarm]

theorem Head.replied_of_valid (hfault : r.flags.sensorFault = false) (hwarm : r.flags.warmup = false) :
    h.replied now r = { h with raw := some r, health := .valid, values := some (h.cfg.convert r now) } := by
  simp [Head.replied, healthOfFlags, hfault, hwarm]

variable (r) in
theorem Head.replied_eq :
    h.replied now r =
      if r.flags.sensorFault then { h with raw := some r, health := .fault }
      else if r.flags.warmup then { h with raw := some r, health := .warmup }
      else { h with raw := some r, health := .valid, values := some (h.cfg.convert r now) } := by
  split
  next hfault => exact replied_of_sensorFault now h hfault
  next hfault =>
    split
    next hwarm => exact replied_of_warmup now h (Bool.eq_false_of_not_eq_true hfault) hwarm
    next hwarm =>
      exact replied_of_valid now h (Bool.eq_false_of_not_eq_true hfault) (Bool.eq_false_of_not_eq_true hwarm)

end

section
variable {s : State} {head : Nat}

theorem gasReply_of_no_record (hfind : s.heads.find head = none) (r : RawReading) : gasReply head r s = s := by
  simp [gasReply, hfind]

/-- Of the heads a reply changes its own alone: the zone's values, samples and evaluation touch none. -/
theorem gasReply_heads (head : Nat) (r : RawReading) (s : State) :
    (gasReply head r s).heads = s.heads.modify head (Head.replied s.deckTime r) := by
  cases hfind : s.heads.find head with
  | none => rw [gasReply_of_no_record hfind, Table.modify_of_not_find _ _ _ hfind]
  | some h =>
    have hrefresh (t : State) : (refreshZone h.cfg.zone t).heads = t.heads := (refreshZone_within _ _).heads_eq (by decide)
    have hpost (old new : HeadHealth) (t : State) : (postHeadState head old new t).heads = t.heads :=
      (postHeadState_within _ _ _ _).heads_eq (by decide)
    simp only [gasReply, hfind]
    rw [(settle_within _ _).heads_eq (by decide), (evaluateZone_within _ _).heads_eq (by decide)]
    split
    · rw [(accumulate_within _ _).heads_eq (by decide), hrefresh, hpost, State.modHead_heads]
    · rw [hrefresh, hpost, State.modHead_heads]

end

/-! ### Stage tables that SET_STAGE_TABLE accepts (R110) -/

theorem StageTable.row_of_getElem? {t : StageTable} {k : Nat} {r : StageRow} (h : t.stages[k - 1]? = some r) :
    t.row k = r := by
  simp [StageTable.row, h]

theorem StageTable.row_succ {t : StageTable} {i : Nat} (h : i < t.stages.length) : t.row (i + 1) = t.stages[i] :=
  StageTable.row_of_getElem? (List.getElem?_eq_getElem h)

theorem stageInRange_iff {r : StageRow} :
    stageInRange r = true ↔
      (1 ≤ r.coMean ∧ r.coMean ≤ 1000) ∧ (1 ≤ r.coInst ∧ r.coInst ≤ 1000) ∧ (1 ≤ r.no2Inst ∧ r.no2Inst ≤ 500) ∧
        r.demand ≤ 100 := by
  simp [stageInRange, within, and_assoc]

theorem stageNotBelow_iff {r under : StageRow} :
    stageNotBelow r under = true ↔
      under.coMean ≤ r.coMean ∧ under.coInst ≤ r.coInst ∧ under.no2Inst ≤ r.no2Inst ∧ under.demand ≤ r.demand := by
  simp [stageNotBelow, and_assoc]

theorem stagesRise_iff_isChain {l : List StageRow} :
    stagesRise l = true ↔ l.IsChain fun under r => stageNotBelow r under = true := by
  induction l with
  | nil => simp [stagesRise]
  | cons a l ih =>
    cases l with
    | nil => simp [stagesRise]
    | cons b l => simp [stagesRise, ih]

theorem stageTableFits_iff {stages : List StageRow} {hysteresis dwell : Nat} :
    stageTableFits stages hysteresis dwell = true ↔
      (∀ r ∈ stages, stageInRange r = true) ∧ stagesRise stages = true ∧ hysteresis ≤ 50 ∧ 30 ≤ dwell ∧ dwell ≤ 1800 := by
  simp [stageTableFits, within, and_assoc]

/-! ### The tests of the stages (R106) -/

section
variable {t : StageTable} {z : Zone}

theorem entryTest_iff {k : Nat} :
    entryTest t z k = true ↔
      (t.row k).coMean ≤ z.coMean ∨ (t.row k).coInst ≤ z.coInst ∨ (t.row k).no2Inst ≤ z.no2Inst := by
  simp [entryTest, or_assoc]

theorem holdingTest_iff {k : Nat} :
    holdingTest t z k = true ↔
      exitThreshold (t.row k).coMean t.hysteresis ≤ z.coMean ∨ exitThreshold (t.row k).coInst t.hysteresis ≤ z.coInst ∨
        exitThreshold (t.row k).no2Inst t.hysteresis ≤ z.no2Inst := by
  simp [holdingTest, or_assoc]

theorem exitThreshold_le (e hysteresis : Nat) : exitThreshold e hysteresis ≤ e :=
  Nat.div_le_of_le_mul ((Nat.mul_le_mul_left e (Nat.sub_le 100 hysteresis)).trans_eq (Nat.mul_comm e 100))

theorem holdingTest_of_entryTest {k : Nat} (h : entryTest t z k = true) : holdingTest t z k = true :=
  holdingTest_iff.2 <|
    (entryTest_iff.1 h).imp (exitThreshold_le _ _).trans (Or.imp (exitThreshold_le _ _).trans (exitThreshold_le _ _).trans)

/-- The entry thresholds do not fall from one stage to the next. -/
theorem entryTest_of_succ {i : Nat} (hrise : stagesRise t.stages = true) (hi : i + 1 < t.stages.length)
    (h : entryTest t z (i + 2) = true) : entryTest t z (i + 1) = true := by
  obtain ⟨hmean, hco, hno2, -⟩ := stageNotBelow_iff.1 (List.isChain_iff_getElem.1 (stagesRise_iff_isChain.1 hrise) i hi)
  rw [entryTest_iff, StageTable.row_succ hi] at h
  rw [entryTest_iff, StageTable.row_succ (Nat.lt_of_succ_lt hi)]
  exact h.imp hmean.trans (Or.imp hco.trans hno2.trans)

theorem entryTest_mono {j k : Nat} (hrise : stagesRise t.stages = true) (hj : 1 ≤ j) (hjk : j ≤ k)
    (hk : k ≤ t.stages.length) (h : entryTest t z k = true) : entryTest t z j = true := by
  induction k, hjk using Nat.le_induction with
  | base => exact h
  | succ k hjk ih =>
    obtain ⟨i, rfl⟩ := Nat.exists_eq_add_of_le' (hj.trans hjk)
    exact ih (Nat.le_of_succ_le hk) (entryTest_of_succ hrise hk h)

/-- No accepted threshold lies above the clamp of its gas (R97, R110). -/
theorem entryTest_of_clamped {i : Nat} (hrange : ∀ r ∈ t.stages, stageInRange r = true) (hi : i < t.stages.length)
    (h : z.coInst = 1000 ∨ z.no2Inst = 500) : entryTest t z (i + 1) = true := by
  obtain ⟨-, ⟨-, hco⟩, ⟨-, hno2⟩, -⟩ := stageInRange_iff.1 (hrange _ (List.getElem_mem hi))
  rw [entryTest_iff, StageTable.row_succ hi]
  exact .inr (h.imp (hco.trans_eq ·.symm) (hno2.trans_eq ·.symm))

end

/-! ### The stage an evaluation rises to (R107) -/

section
variable {t : StageTable} {z : Zone} {k : Nat}

/-- The stages are tried from 4 down, so the one found has none above it. -/
theorem highestEntry_eq_some (habove : z.stage < k) (h1 : 1 ≤ k) (h4 : k ≤ 4) (hpass : entryTest t z k = true)
    (hhigher : ∀ j, k < j → j ≤ 4 → entryTest t z j = false) : highestEntry t z = some k := by
  interval_cases k <;> simp [highestEntry, habove, hpass, hhigher]

theorem highestEntry_eq_none (h : ∀ k, z.stage < k → k ≤ 4 → entryTest t z k = false) : highestEntry t z = none := by
  simp +contextual [highestEntry, h]

end

/-! ### The evaluation of a zone (R107) -/

/-- Of the zones a change of stage stores the stage alone: the level checks and the allocation pass touch none. -/
theorem changeStage_zones (zone new : Nat) (s : State) :
    (changeStage zone new s).zones = s.zones.modify zone fun z => { z with stage := new } := by
  cases hfind : s.zones.find zone with
  | none => simp [changeStage, hfind, Table.modify_of_not_find]
  | some z =>
    have hchecks (levels : List Nat) (t : State) : (forEach levels (levelCheck s) t).zones = t.zones :=
      (forEach_within _ (levelCheck_within s) _ _).zones_eq (by decide)
    have hpost (kind : EventKind) (a b c : Nat) (t : State) : (post kind a b c t).zones = t.zones :=
      (post_within _ _ _ _ _).zones_eq (by decide)
    simp only [changeStage, hfind]
    split
    · rw [(allocationPass_within _).zones_eq (by decide), hchecks, hpost, State.modZone_zones]
    · rw [hchecks, hpost, State.modZone_zones]

/-- A change that leaves the record found as it is leaves the table as it is. -/
theorem Table.modify_of_find_fixed {α : Type} {t : Table α} {k : Nat} {x : α} {f : α → α} (h : t.find k = some x)
    (hf : f x = x) : t.modify k f = t := by
  induction t with
  | nil => rfl
  | cons p t ih =>
    obtain ⟨i, y⟩ := p
    rw [Table.find_cons] at h
    split at h
    next hik => cases h; simp [Table.modify, hik, hf]
    next hik => simp [Table.modify, hik, ih h]

section
variable {s : State} {zone : Nat} {z : Zone} {f g : Zone → Zone}

theorem modZone_of_find (hfind : s.zones.find zone = some z) (hfg : f z = g z) : s.modZone zone f = s.modZone zone g := by
  simp only [State.modZone, Table.modify_of_find _ _ _ f g hfind hfg]

theorem modZone_of_fixed (hfind : s.zones.find zone = some z) (hf : f z = z) : s.modZone zone f = s := by
  simp only [State.modZone, Table.modify_of_find_fixed hfind hf]

end

/-- The dwell an evaluation that finds no rise leaves a zone. -/
def Zone.dwellAfter (t : StageTable) (now : Time) (z : Zone) : Option Time :=
  if z.stage = 0 then z.dwell
  else if holdingTest t z z.stage then none
  else if z.dwell = none then some (Time.plus now (t.dwell * 10))
  else z.dwell

section
variable {t : StageTable} {z : Zone} (now : Time)

theorem Zone.dwellAfter_of_stage_zero (hstage : z.stage = 0) : z.dwellAfter t now = z.dwell := if_pos hstage

theorem Zone.dwellAfter_of_holding (hstage : z.stage ≠ 0) (hhold : holdingTest t z z.stage = true) :
    z.dwellAfter t now = none :=
  (if_neg hstage).trans (if_pos hhold)

theorem Zone.dwellAfter_of_running (hstage : z.stage ≠ 0) (hhold : ¬ holdingTest t z z.stage = true)
    (hdwell : z.dwell ≠ none) : z.dwellAfter t now = z.dwell :=
  (if_neg hstage).trans ((if_neg hhold).trans (if_neg hdwell))

theorem Zone.dwellAfter_of_stopped (hstage : z.stage ≠ 0) (hhold : ¬ holdingTest t z z.stage = true)
    (hdwell : z.dwell = none) : z.dwellAfter t now = some (Time.plus now (t.dwell * 10)) :=
  (if_neg hstage).trans ((if_neg hhold).trans (if_pos hdwell))

end

section
variable {s : State} {zone : Nat} {z : Zone}

theorem evaluateZone_of_failsafe (hfind : s.zones.find zone = some z) (hsafe : z.failsafe = true) :
    evaluateZone zone s = s := by
  simp [evaluateZone, hfind, hsafe]

theorem evaluateZone_of_rise {k : Nat} (hfind : s.zones.find zone = some z) (hsafe : z.failsafe = false)
    (hrise : highestEntry s.stageTable z = some k) :
    evaluateZone zone s = changeStage zone k (s.modZone zone fun z => { z with dwell := none }) := by
  simp [evaluateZone, hfind, hsafe, hrise]

theorem evaluateZone_of_no_rise (hfind : s.zones.find zone = some z) (hsafe : z.failsafe = false)
    (hnone : highestEntry s.stageTable z = none) :
    evaluateZone zone s = s.modZone zone fun z => { z with dwell := z.dwellAfter s.stageTable s.deckTime } := by
  have store {d : Option Time} (hd : z.dwellAfter s.stageTable s.deckTime = d) :
      (s.modZone zone fun z => { z with dwell := d }) =
        s.modZone zone fun z => { z with dwell := z.dwellAfter s.stageTable s.deckTime } :=
    modZone_of_find hfind (by rw [hd])
  have keep (hd : z.dwellAfter s.stageTable s.deckTime = z.dwell) :
      s = s.modZone zone fun z => { z with dwell := z.dwellAfter s.stageTable s.deckTime } :=
    (modZone_of_fixed hfind (by rw [hd])).symm
  simp only [evaluateZone, hfind, hsafe, hnone, Bool.false_eq_true, if_false, Nat.one_le_iff_ne_zero, Option.isSome_iff_ne_none]
  by_cases hstage : z.stage = 0
  · rw [if_neg (not_not.2 hstage)]
    exact keep (Zone.dwellAfter_of_stage_zero _ hstage)
  rw [if_pos hstage]
  split
  next hhold => exact store (Zone.dwellAfter_of_holding _ hstage hhold)
  next hhold =>
    split
    next hdwell => exact keep (Zone.dwellAfter_of_running _ hstage hhold hdwell)
    next hdwell => exact store (Zone.dwellAfter_of_stopped _ hstage hhold (not_not.1 hdwell))

end

/-! ### O42 -/

/-- Settles O42: the conversion gas by gas through `convertGas`, and the table of heads after a reply. -/
theorem gasRepliesAreConverted : Obligations.GasRepliesAreConverted := by
  unfold Obligations.GasRepliesAreConverted
  refine ⟨fun c r now => ⟨fun hsat => ?co, fun hsat => ?no2, convertGas_le _ _ _ _ _, convertGas_le _ _ _ _ _,
    fun hsat hle => ?coZero, fun hsat hle => ?no2Zero, fun hsat => ?coMax, fun hsat => ?no2Max,
    fun stages hysteresis dwell z hlen hfits hclamp => ?clamped⟩, fun s head r => ⟨fun h hfind => ?own, fun n hn => ?other,
    fun hfind => gasReply_of_no_record hfind r⟩⟩
  case co | no2 => simp only [HeadCfg.convert, hsat, convertGas_of_not_saturated]
  case coZero | no2Zero => simp only [HeadCfg.convert, hsat, convertGas_of_le_offset _ _ hle]
  case coMax | no2Max => simp only [HeadCfg.convert, hsat, convertGas_of_saturated]
  case clamped =>
    obtain ⟨hrange, -⟩ := stageTableFits_iff.1 hfits
    exact entryTest_of_clamped (i := 3) hrange (Nat.lt_of_lt_of_eq (by decide) hlen.symm) hclamp
  case own => rw [gasReply_heads, Table.find_modify, if_pos rfl, hfind, Option.map_some, Head.replied_eq]
  case other => rw [gasReply_heads, Table.find_modify, if_neg hn]

/-! ### O44 -/

/-- Settles O44: the tests as their thresholds, their nesting along the stages, and the three ends of an evaluation. -/
theorem stagesFollowTests : Obligations.StagesFollowTests := by
  unfold Obligations.StagesFollowTests
  refine ⟨fun stages hysteresis dwell z hlen hfits => ⟨fun k r _ _ hrow => ?tests, fun j k hj hjk hk hpass => ?nest⟩,
    fun s zone z hfind _ => ⟨evaluateZone_of_failsafe hfind, fun k hsafe habove hpass hhigher => ?rise,
      fun hsafe hnone => ?noRise⟩⟩
  case tests => exact StageTable.row_of_getElem? (t := ⟨stages, hysteresis, dwell⟩) hrow ▸ ⟨entryTest_iff, holdingTest_iff⟩
  case nest =>
    obtain ⟨-, hrise, -⟩ := stageTableFits_iff.1 hfits
    exact ⟨entryTest_mono hrise hj hjk (hk.trans_eq hlen.symm) hpass, holdingTest_of_entryTest hpass⟩
  case rise =>
    obtain ⟨h1, h4, hpass⟩ := hpass
    have hentry : highestEntry s.stageTable z = some k :=
      highestEntry_eq_some habove h1 h4 hpass fun j hkj hj4 =>
        Bool.eq_false_of_not_eq_true fun hj => hhigher j hkj ⟨h1.trans hkj.le, hj4, hj⟩
    simp [evaluateZone_of_rise hfind hsafe hentry, changeStage_zones, hfind]
  case noRise =>
    have hentry : highestEntry s.stageTable z = none :=
      highestEntry_eq_none fun k habove hk4 =>
        Bool.eq_false_of_not_eq_true fun hk => hnone k habove ⟨Nat.one_le_of_lt habove, hk4, hk⟩
    exact evaluateZone_of_no_rise hfind hsafe hentry

end Sys2Proof.Machine
end

section
/-! Events (R179, R180) and the commands on a station's own state (R178, R182, R183): what a delivery does to each port, where
a posted event goes, and the answers of READ_STATUS, READ_EVENTS and SET_EVENT_MASK. -/

namespace Sys2Proof.Machine

/-! ### Deliveries -/

/-- A port after a delivery: the record at the newest end of its queue, or, at 24 records, the event-overrun flag set (R180). -/
def Port.delivered (p : Port) (e : EventRecord) : Port :=
  if p.events.length < 24 then { p with events := p.events ++ [e] } else { p with eventOverrun := true }

theorem deliver_eq_setPort (st : Station) (e : EventRecord) (s : State) :
    deliver st e s = s.setPort st ((s.port st).delivered e) :=
  (apply_ite (s.setPort st) _ _ _).symm

section
variable (s : State) (st st' : Station) (e : EventRecord)

@[simp] theorem deliver_port : (deliver st e s).port st' = if st' = st then (s.port st').delivered e else s.port st' := by
  rw [deliver_eq_setPort, State.port_setPort]
  split
  next heq => rw [heq]
  next => rfl

@[simp] theorem deliverMasked_port :
    (deliverMasked st e s).port st' =
      if st' = st ∧ (s.port st').mask.getLsbD e.kind.code = true then (s.port st').delivered e else s.port st' := by
  rw [deliverMasked, apply_ite (State.port · st'), deliver_port]
  by_cases heq : st' = st
  · subst heq
    simp
  · simp [heq]

end

/-! ### Posted events -/

section
variable (s : State) (kind : EventKind) (subject a b : Nat) (st named : Station)

/-- Each station's turn finds its port as it stood before the event: the other two turns leave it alone. -/
theorem post_port :
    (post kind subject a b s).port st =
      if (s.port st).mask.getLsbD kind.code then (s.port st).delivered (eventNow s kind subject a b) else s.port st := by
  unfold post
  cases st <;> simp [eventNow]

theorem postTo_port :
    (postTo named kind subject a b s).port st =
      if st = named ∧ (s.port st).mask.getLsbD kind.code = true then (s.port st).delivered (eventNow s kind subject a b)
      else s.port st :=
  deliverMasked_port s named st (eventNow s kind subject a b)

theorem postRestarted_port :
    (postRestarted a b s).port st = (s.port st).delivered (eventNow s .restarted s.control.cause.code a b) := by
  unfold postRestarted
  cases st <;> simp

end

/-- A step within no part leaves all but the ports. -/
theorem Within.with_ports {s t : State} (h : Within [] s t) : { t with ports := s.ports } = s := by
  simp only [h.pending, h.deckTime, h.pins, h.control_eq, h.bays_eq, h.bands_eq, h.pairs_eq, h.levels_eq, h.rows_eq, h.heads_eq,
    h.zones_eq, h.fans_eq, h.guidance_eq, h.supply_eq, h.loop_eq, h.jitter_eq, h.fade_eq, h.stageTable_eq, h.censusMinute_eq,
    h.censusStart_eq, h.airMinute_eq, List.not_mem_nil, not_false_eq_true]

/-! ### O13 -/

/-- Settles O13: the port of a station after each kind of posting, and the frame of events that `Within` gives. -/
theorem eventsReachMaskedStations : Obligations.EventsReachMaskedStations := by
  unfold Obligations.EventsReachMaskedStations
  intro s kind subject a b st named
  exact ⟨post_port s kind subject a b st, postTo_port s kind subject a b st named, postRestarted_port s a b st,
    (post_within kind subject a b s).with_ports, (postTo_within named kind subject a b s).with_ports⟩

/-! ### Contents of READ_STATUS and READ_EVENTS -/

theorem mode_code_eq (s : State) : s.control.mode.code = if s.inRun then 0 else 1 := by
  cases hmode : s.control.mode <;> simp [State.inRun, Mode.code, hmode]

theorem statusContents_eq_joinFields (s : State) (st : Station) :
    statusContents s st =
      joinFields [1, 4, 1, 1, 1, 1, 1, 1, 4, 1, 1, 1, 1, 1, 1]
        [if s.inRun then 0 else 1, s.deckTime.toNat, s.control.cause.code, bit s.control.profileValid, bit s.writing,
         bit s.control.strapHigh, (s.port st).events.length, bit (s.port st).eventOverrun, (s.port st).mask.toNat,
         s.guidance.queue.length, s.guidance.holds.length, bit s.supply.short, bit s.pins.shed,
         (s.loop.health.filter fun p => decide (p.2.health = .fault)).length,
         (s.zones.filter fun p => p.2.failsafe).length] := by
  simp [statusContents, faultCount, failsafeCount, mode_code_eq, List.countP_eq_length_filter]

theorem EventRecord.bytes_eq_joinFields :
    EventRecord.bytes = fun e => joinFields [1, 4, 2, 2, 2] [e.kind.code, e.time.toNat, e.subject, e.a, e.b] := by
  funext e
  simp [EventRecord.bytes]

/-- The counts of remaining and returned records are the lengths of the two pieces of the queue. -/
theorem eventsContents_eq_joinFields (p : Port) (count : Nat) :
    eventsContents p count =
      joinFields [1, 1, 1] [bit p.eventOverrun, (p.events.drop count).length, (p.events.take count).length] ++
        (p.events.take count).flatMap fun e =>
          joinFields [1, 4, 2, 2, 2] [e.kind.code, e.time.toNat, e.subject, e.a, e.b] := by
  rw [eventsContents, EventRecord.bytes_eq_joinFields, List.length_drop, List.length_take]
  simp

/-! ### The commands -/

section
variable {s : State} {count mask : Nat} (st : Station)

theorem doReadEvents_of_within (hlow : 1 ≤ count) (hhigh : count ≤ 6) :
    doReadEvents st count s =
      done (s.setPort st { s.port st with events := (s.port st).events.drop count, eventOverrun := false })
        (eventsContents (s.port st) count) := by
  simp [doReadEvents, within, hlow, hhigh]

theorem doReadEvents_of_outside (hout : count = 0 ∨ 6 < count) : doReadEvents st count s = refuse s .badArgument := by
  have hrange : within 1 6 count = false := by simp [within]; omega
  simp [doReadEvents, hrange]

theorem doSetEventMask_of_writing (hw : s.writing = true) : doSetEventMask st mask s = refuse s .busy := by
  simp [doSetEventMask, hw]

theorem doSetEventMask_of_high (hw : s.writing = false) (hmask : 2 ^ 28 ≤ mask) :
    doSetEventMask st mask s = refuse s .badArgument := by
  simp [doSetEventMask, hw, show 268435456 ≤ mask from hmask]

theorem doSetEventMask_of_fits (hw : s.writing = false) (hmask : mask < 2 ^ 28) :
    doSetEventMask st mask s =
      done (s.setPort st { s.port st with mask := BitVec.ofNat 32 mask }) (leBytes 4 (s.port st).mask.toNat) := by
  simp [doSetEventMask, hw, show ¬ 268435456 ≤ mask from Nat.not_le.2 hmask]

end

/-! ### O14 -/

/-- Codes below READ_LOADS are of class All and need one response slot: at a port that is `Ready` such a command answers as its
block does. -/
theorem exec_of_code_lt {i : Instr} {s s' : State} {st : Station} {tag : Nat} {c : Command} {status : Status}
    {contents : List Byte} (h : Ready s st = true) (hi : i.entry = some (st, .command tag c)) (hcode : c.code < 0x07)
    (hl : c.lengthFits = true) (he : execute st c s = (s', [(status, contents)])) :
    exec i s = replies s st tag c.code status contents s' :=
  exec_command i st tag c s s' status contents hi h hcode.ne (if_pos hcode.le) hl he

/-- Settles O14: the checks of the three commands case by case, and their contents laid out by their fields. -/
theorem statusAndEventCommandsAnswer : Obligations.StatusAndEventCommandsAnswer := by
  unfold Obligations.StatusAndEventCommandsAnswer
  intro s st tag h
  have events {count : Nat} {s' : State} {status : Status} {contents : List Byte}
      (he : doReadEvents st count s = (s', [(status, contents)])) :
      exec (.readEvents st tag count) s = replies s st tag 0x02 status contents s' :=
    exec_of_code_lt (c := .readEvents count) h rfl (by decide : 0x02 < 0x07) rfl he
  have setMask {mask : Nat} {s' : State} {status : Status} {contents : List Byte}
      (he : doSetEventMask st mask s = (s', [(status, contents)])) :
      exec (.setEventMask st tag mask) s = replies s st tag 0x03 status contents s' :=
    exec_of_code_lt (c := .setEventMask mask) h rfl (by decide : 0x03 < 0x07) rfl he
  refine ⟨?status, fun count hlow hhigh => ?taken, fun count hout => events (doReadEvents_of_outside st hout),
    fun mask hw => setMask (doSetEventMask_of_writing st hw), fun mask hw hmask => setMask (doSetEventMask_of_high st hw hmask),
    fun mask hw hmask => setMask (doSetEventMask_of_fits st hw hmask)⟩
  case status =>
    rw [← statusContents_eq_joinFields]
    exact exec_of_code_lt (c := .readStatus) h rfl (by decide : 0x01 < 0x07) rfl rfl
  case taken =>
    rw [← eventsContents_eq_joinFields]
    exact events (doReadEvents_of_within st hlow hhigh)

end Sys2Proof.Machine
end

section
/-! Rules for changes of one record: two changes of a record are one, and only the record found matters. -/

namespace Sys2Proof.Machine

section
variable {s : State} {n : Nat}

theorem State.modBay_modBay (f g : Bay → Bay) : (s.modBay n f).modBay n g = s.modBay n fun x => g (f x) := by
  simp only [State.modBay, Table.modify_modify]

theorem State.modPair_modPair (f g : RampPair → RampPair) :
    (s.modPair n f).modPair n g = s.modPair n fun x => g (f x) := by
  simp only [State.modPair, Table.modify_modify]

theorem State.modLevel_modLevel (f g : Level → Level) : (s.modLevel n f).modLevel n g = s.modLevel n fun x => g (f x) := by
  simp only [State.modLevel, Table.modify_modify]

theorem State.modZone_modZone (f g : Zone → Zone) : (s.modZone n f).modZone n g = s.modZone n fun x => g (f x) := by
  simp only [State.modZone, Table.modify_modify]

theorem State.modFan_modFan (f g : Fan → Fan) : (s.modFan n f).modFan n g = s.modFan n fun x => g (f x) := by
  simp only [State.modFan, Table.modify_modify]

theorem modBay_of_find {b : Bay} {f g : Bay → Bay} (hfind : s.bays.find n = some b) (hfg : f b = g b) :
    s.modBay n f = s.modBay n g := by
  simp only [State.modBay, Table.modify_of_find _ _ _ f g hfind hfg]

theorem modPair_of_find {p : RampPair} {f g : RampPair → RampPair} (hfind : s.pairs.find n = some p) (hfg : f p = g p) :
    s.modPair n f = s.modPair n g := by
  simp only [State.modPair, Table.modify_of_find _ _ _ f g hfind hfg]

theorem modLevel_of_find {l : Level} {f g : Level → Level} (hfind : s.levels.find n = some l) (hfg : f l = g l) :
    s.modLevel n f = s.modLevel n g := by
  simp only [State.modLevel, Table.modify_of_find _ _ _ f g hfind hfg]

theorem modRow_of_find {r : Row} {f g : Row → Row} (hfind : s.rows.find n = some r) (hfg : f r = g r) :
    s.modRow n f = s.modRow n g := by
  simp only [State.modRow, Table.modify_of_find _ _ _ f g hfind hfg]

theorem modFan_of_find {x : Fan} {f g : Fan → Fan} (hfind : s.fans.find n = some x) (hfg : f x = g x) :
    s.modFan n f = s.modFan n g := by
  simp only [State.modFan, Table.modify_of_find _ _ _ f g hfind hfg]

theorem modFan_find {x : Fan} (f : Fan → Fan) (hfind : s.fans.find n = some x) : (s.modFan n f).fans.find n = some (f x) := by
  simp [hfind]

end

/-! ### How a fan acts on a grant (R129) -/

/-- A fan after a grant that calls for no start step (R129). -/
def Fan.onGrant (now : Time) (g : Nat) (f : Fan) : Fan :=
  let stored := { f with granted := g }
  let steady := { stored with state := .steady, rampHeld := false, timer := none }
  let rising := { stored with state := .accelerating, timer := some (Time.plus now f.cfg.accel) }
  match f.state with
  | .stopped => if 0 < g then stored else { stored with rampHeld := false }
  | .accelerating =>
    if f.commanded < g then stored else if f.commanded = g then steady else stored.startDecel now .decelerating
  | .steady => if f.commanded < g then rising else if f.commanded = g then stored else stored.startDecel now .decelerating
  | .decelerating => if f.commanded < g then rising else if f.commanded = g then steady else stored
  | .reversingDown | .reverseDwell | .faulted | .isolated | .held => stored

/-- Whether a grant above 0 has a fan try its start step (R129). -/
def Fan.startsOn (g : Nat) (f : Fan) : Prop := f.state = .stopped ∧ 0 < g ∧ f.rampHeld = false

section
variable {s : State} {ch g : Nat} {f : Fan}

theorem grantFan_of_start (hfind : s.fans.find ch = some f) (h : f.startsOn g) :
    grantFan ch g s = fanRise ch f.cfg.start (s.modFan ch fun _ => { f with granted := g }) := by
  obtain ⟨hstate, hg, hheld⟩ := h
  have hstored : (s.modFan ch fun f => { f with granted := g }) = s.modFan ch fun _ => { f with granted := g } :=
    modFan_of_find hfind rfl
  simp [grantFan, hfind, hstate, hg, hheld, hstored, fanStart]

theorem grantFan_of_no_start (hfind : s.fans.find ch = some f) (h : ¬ f.startsOn g) :
    grantFan ch g s = s.modFan ch fun _ => f.onGrant s.deckTime g := by
  have hone {k : Fan → Fan} (hk : k f = f.onGrant s.deckTime g) : s.modFan ch k = s.modFan ch fun _ => f.onGrant s.deckTime g :=
    modFan_of_find hfind hk
  simp only [grantFan, hfind, State.modFan_modFan]
  cases hstate : f.state with
  | stopped =>
    simp only [Fan.startsOn, hstate, true_and, not_and, Bool.not_eq_false] at h
    by_cases hg : 0 < g
    · simp only [hg, h hg, if_true]
      exact hone (by simp [Fan.onGrant, hstate, hg])
    · simp only [hg, if_false]
      exact hone (by simp [Fan.onGrant, hstate, hg, Fan.released])
  | accelerating | steady | decelerating =>
    dsimp only
    split
    · exact hone (by simp [Fan.onGrant, *])
    · split
      · exact hone (by simp [Fan.onGrant, *])
      · exact hone (by simp [Fan.onGrant, *])
  | reversingDown | reverseDwell | faulted | isolated | held => exact hone (by simp [Fan.onGrant, hstate])

end

/-! ### O52 -/

theorem Row.actOnGrant_eq (now : Time) (fade : Nat) (r : Row) (g : Nat) :
    r.actOnGrant now fade g = { r with granted := g, step := (r.actOnGrant now fade g).step } := rfl

/-- Settles O52: the table of R79 through `Row.actOnGrant`, that of R129 through the two forms of `grantFan`. -/
theorem grantsMoveStates : Obligations.GrantsMoveStates := by
  unfold Obligations.GrantsMoveStates
  refine ⟨fun now fade r g hfrozen => ?rows, fun s ch g f hfind => ?fans⟩
  case rows =>
    refine ⟨rfl, fun heq => ?_, fun hlt hst => ?_, fun hlt hst => ?_, fun hlt hst => ?_, fun hlt hst => ?_⟩
    · simp [Row.actOnGrant, heq]
    · rcases hst with ⟨e, hst⟩ | hst <;> simp [Row.actOnGrant, hlt, hst]
    · rcases hst with hst | ⟨e, hst⟩ <;> simp [Row.actOnGrant, hlt, hst, Time.plus]
    · obtain ⟨e, hst⟩ := hst
      simp [Row.actOnGrant, hlt.not_gt, hlt.ne', hst]
    · cases hstep : r.step with
      | fading e => exact absurd ⟨e, hstep⟩ hst
      | frozen => exact absurd hstep hfrozen
      | still | rising _ | riseHeld => simp [Row.actOnGrant, hlt.not_gt, hlt.ne', hstep]
  case fans =>
    have acts (h : ¬ f.startsOn g) {x : Fan} (hx : f.onGrant s.deckTime g = x) : grantFan ch g s = s.modFan ch fun _ => x := by
      rw [grantFan_of_no_start hfind h, hx]
    have moving (h : f.state ≠ .stopped) : ¬ f.startsOn g := fun hs => h hs.1
    refine ⟨fun hst hg => ?_, fun hst hg => ?_, fun hst hlt => ?_, fun hst heq => ?_, fun hst hlt => ?_, fun hst heq => ?_,
      fun hst hlt => ?_, fun hst hlt => ?_, fun hst => ?_⟩
    · split
      next hheld => exact acts (by simp [Fan.startsOn, hheld]) (by simp [Fan.onGrant, hst, hg])
      next hheld => exact grantFan_of_start hfind ⟨hst, hg, by simpa using hheld⟩
    · exact acts (by simp [Fan.startsOn, hg]) (by simp [Fan.onGrant, hst, hg])
    · exact acts (moving (by simp [hst])) (by simp [Fan.onGrant, hst, hlt])
    · exact acts (moving (by simp [hst])) (by simp [Fan.onGrant, hst, heq])
    · exact acts (moving (by simp [hst])) (by simp [Fan.onGrant, hst, hlt.not_gt, hlt.ne'])
    · rcases hst with hst | hst <;> exact acts (moving (by simp [hst])) (by simp [Fan.onGrant, hst, heq])
    · rcases hst with hst | hst <;>
        exact acts (moving (by simp [hst])) (by simp [Fan.onGrant, hst, hlt.not_gt, hlt.ne', Fan.startDecel])
    · rcases hst with hst | hst <;> exact acts (moving (by simp [hst])) (by simp [Fan.onGrant, hst, hlt])
    · rcases hst with hst | hst | hst | hst | hst <;>
        exact acts (moving (by simp [hst])) (by simp [Fan.onGrant, hst])

end Sys2Proof.Machine
end

section
/-! The laws every step keeps, taken together: `Keeps s t` says that each law of the device that holds in `s` holds in `t`. One
lemma per operation, as in `Within`; the obligations about steps read their law off `step_keeps`. -/

namespace Sys2Proof.Machine

/-! ### The laws, record by record -/

/-- A fan that is STOPPED, in REVERSE_DWELL, FAULTED or ISOLATED stands at 0 (R127). -/
def Fan.AtRest (f : Fan) : Prop :=
  f.state = .stopped ∨ f.state = .reverseDwell ∨ f.state = .faulted ∨ f.state = .isolated → f.commanded = 0

/-- Class 1, or class 3 with a floor of 0 (R147). -/
def Fan.ClassFits (f : Fan) : Prop := f.cls = 1 ∨ (f.cls = 3 ∧ f.floor = 0)

/-- FAN_RAMP_HELD is of STOPPED and ACCELERATING fans; outside RUN mode a fan is HELD, FAULTED or ISOLATED (R130 to R132, R142). -/
def Fan.StepFits (run : Bool) (f : Fan) : Prop :=
  (f.rampHeld = true → f.state = .stopped ∨ f.state = .accelerating) ∧
  (run = true ∨ f.state = .held ∨ f.state = .faulted ∨ f.state = .isolated)

/-- What a change of a fan keeps of the laws of one fan. -/
structure Fan.Lawful (run : Bool) (f g : Fan) : Prop where
  atRest : f.AtRest → g.AtRest
  classFits : f.ClassFits → g.ClassFits
  stepFits : f.StepFits run → g.StepFits run

/-- The admin states of the bays in force. -/
def State.admins (s : State) : Table Admin := s.bays.mapRecords fun _ b => b.admin

/-- The step states of the rows in force. -/
def State.rowSteps (s : State) : Table RowStep := s.rows.mapRecords fun _ r => r.step

/-- The laws of tickets and holds over admin states, queue and hold list. -/
structure Matched (admins : Table Admin) (queue : List Request) (holds : List Hold) (run : Bool) : Prop where
  nodup : (queue.map (·.ticket) ++ holds.map (·.ticket)).Nodup
  held : ∀ h ∈ holds, admins.find h.bay = some (.held h.ticket)
  hold : ∀ n t, (n, Admin.held t) ∈ admins → ∃ h ∈ holds, h.ticket = t ∧ h.bay = n
  config : run = true ∨ (queue = [] ∧ holds = [])

theorem fansAtRest_iff {s : State} : FansAtRest s = true ↔ ∀ p ∈ s.fans, p.2.AtRest := by
  simp only [FansAtRest, List.all_eq_true, Fan.AtRest]
  refine forall₂_congr fun p _ => ?_
  by_cases h : p.2.commanded = 0 <;> simp [h, and_assoc]

theorem rowSteps_frozen_iff {s : State} :
    (∀ p ∈ s.rowSteps, p.2 = .frozen) ↔ ∀ p ∈ s.rows, p.2.step = .frozen := by
  simp only [State.rowSteps, Table.mapRecords, List.forall_mem_map]

theorem stepsHeld_iff {s : State} :
    StepsHeld s = true ↔ (∀ p ∈ s.fans, p.2.StepFits s.inRun) ∧ (s.inRun = true ∨ ∀ p ∈ s.rowSteps, p.2 = .frozen) := by
  have hheld (f : Fan) : (!f.rampHeld || decide (f.state = .stopped) || decide (f.state = .accelerating)) = true ↔
      (f.rampHeld = true → f.state = .stopped ∨ f.state = .accelerating) := by
    cases f.rampHeld <;> simp
  simp only [StepsHeld, Bool.and_eq_true, Bool.or_eq_true (s.inRun), rowSteps_frozen_iff, List.all_eq_true, Fan.StepFits,
    hheld, forall_and, decide_eq_true_eq]
  cases s.inRun
  · simp [or_assoc, and_comm, and_left_comm, and_assoc]
  · simp

theorem loadsFit_iff {s : State} :
    LoadsFit s = true ↔ s.fans.rising = true ∧ s.rows.rising = true ∧ ∀ p ∈ s.fans, p.2.ClassFits := by
  simp [LoadsFit, Fan.ClassFits, and_assoc]

theorem holdsMatch_iff {s : State} :
    HoldsMatch s = true ↔ Matched s.admins s.guidance.queue s.guidance.holds s.inRun := by
  simp only [HoldsMatch, Bool.and_eq_true, List.all_eq_true, decide_eq_true_eq]
  constructor
  · rintro ⟨⟨⟨hnodup, hheld⟩, hhold⟩, hconfig⟩
    refine ⟨hnodup, fun h hmem => by simpa [State.admins] using hheld h hmem, fun n t hmem => ?_, by simpa using hconfig⟩
    obtain ⟨p, hp, heq⟩ := List.mem_map.1 hmem
    obtain ⟨rfl, hadmin⟩ := Prod.mk.inj heq
    have hadmin : p.2.admin = .held t := hadmin
    simpa [hadmin] using hhold p hp
  · rintro ⟨hnodup, hheld, hhold, hconfig⟩
    refine ⟨⟨⟨hnodup, fun h hmem => by simpa [State.admins] using hheld h hmem⟩, fun p hp => ?_⟩, by simpa using hconfig⟩
    cases hadmin : p.2.admin with
    | held t => simpa using hhold p.1 t (List.mem_map.2 ⟨p, hp, Prod.ext rfl hadmin⟩)
    | opened | claimed _ | closed => rfl

theorem bounded_iff {s : State} :
    Bounded s = true ↔ (∀ st, (s.port st).bounded = true) ∧ s.guidance.queue.length ≤ 32 ∧
      s.guidance.holds.length ≤ 64 := by
  simp only [Bounded, Bool.and_eq_true, decide_eq_true_eq]
  constructor
  · rintro ⟨⟨⟨⟨ha, hb⟩, hc⟩, hq⟩, hh⟩
    exact ⟨fun st => by cases st <;> assumption, hq, hh⟩
  · rintro ⟨hp, hq, hh⟩
    exact ⟨⟨⟨⟨hp .supervisor, hp .lane⟩, hp .guidance⟩, hq⟩, hh⟩

/-- The tables of records in force rise, as those of the configurations the mode controller holds. -/
theorem tablesRising_iff {s : State} :
    TablesRising s = true ↔
      (s.bays.rising = true ∧ s.pairs.rising = true ∧ s.levels.rising = true ∧ s.rows.rising = true ∧
        s.heads.rising = true ∧ s.zones.rising = true ∧ s.fans.rising = true) ∧
      (∀ c, s.control.working = some c → c.rising = true) ∧
      (∀ p, s.control.store = some p → p.config.rising = true) ∧
      (∀ w, s.control.write = some w → w.contents.config.rising = true) := by
  simp [TablesRising, Configuration.rising, State.inForce, and_assoc, Option.all_eq_true]

theorem addressTablesRising_iff {s : State} :
    AddressTablesRising s = true ↔
      s.bands.rising = true ∧ s.loop.health.rising = true ∧ s.loop.pendingBands.rising = true := by
  simp [AddressTablesRising, and_assoc]

end Sys2Proof.Machine
end

section
namespace Sys2Proof.Machine

/-! ### Every law together -/

/-- The bounds of the guidance queue (R48) and of the hold list (R60). -/
def GuidanceFits (s : State) : Prop := s.guidance.queue.length ≤ 32 ∧ s.guidance.holds.length ≤ 64

/-- A port in which no entry and no response has been added, and whose event queue keeps its bound. -/
structure Port.Quiet (p q : Port) : Prop where
  commands : q.commands.length ≤ p.commands.length
  responses : q.responses.length ≤ p.responses.length
  events : p.events.length ≤ 24 → q.events.length ≤ 24

/-- Every law of tables, fans and loads, and every bound of the allocation unit, that holds in `s` holds in `t`; and the queue of
commands stands. -/
structure KeepsRecords (s t : State) : Prop where
  pending : t.pending = s.pending
  queue : s.guidance.queue.length ≤ 32 → t.guidance.queue.length ≤ 32
  holds : s.guidance.holds.length ≤ 64 → t.guidance.holds.length ≤ 64
  tables : TablesRising s = true → TablesRising t = true
  addresses : AddressTablesRising s = true → AddressTablesRising t = true
  atRest : FansAtRest s = true → FansAtRest t = true
  classes : (∀ p ∈ s.fans, p.2.ClassFits) → ∀ p ∈ t.fans, p.2.ClassFits
  steps : StepsHeld s = true → StepsHeld t = true

/-- The same of a block's own work, which adds nothing to a port but events. -/
structure Lasting (s t : State) : Prop extends KeepsRecords s t where
  port : ∀ st, (s.port st).Quiet (t.port st)

/-- The law of tickets and holds with them: what a block's work keeps. -/
structure Keeps (s t : State) : Prop extends Lasting s t where
  matched : GuidanceFits s → TablesRising s = true → HoldsMatch s = true → HoldsMatch t = true

variable {s t u : State}

theorem Port.Quiet.refl (p : Port) : p.Quiet p := ⟨le_rfl, le_rfl, id⟩

theorem Port.Quiet.trans {p q r : Port} (h : p.Quiet q) (k : q.Quiet r) : p.Quiet r :=
  ⟨k.commands.trans h.commands, k.responses.trans h.responses, k.events ∘ h.events⟩

theorem KeepsRecords.refl (s : State) : KeepsRecords s s := ⟨rfl, id, id, id, id, id, id, id⟩

theorem KeepsRecords.trans (h : KeepsRecords s t) (k : KeepsRecords t u) : KeepsRecords s u :=
  ⟨k.pending.trans h.pending, k.queue ∘ h.queue, k.holds ∘ h.holds, k.tables ∘ h.tables, k.addresses ∘ h.addresses,
    k.atRest ∘ h.atRest, k.classes ∘ h.classes, k.steps ∘ h.steps⟩

theorem KeepsRecords.guidanceFits (h : KeepsRecords s t) (hb : GuidanceFits s) : GuidanceFits t :=
  ⟨h.queue hb.1, h.holds hb.2⟩

theorem Lasting.refl (s : State) : Lasting s s := ⟨.refl s, fun _ => .refl _⟩

theorem Lasting.trans (h : Lasting s t) (k : Lasting t u) : Lasting s u :=
  ⟨h.toKeepsRecords.trans k.toKeepsRecords, fun st => (h.port st).trans (k.port st)⟩

theorem Keeps.refl (s : State) : Keeps s s := ⟨.refl s, fun _ _ => id⟩

theorem Keeps.trans (h : Keeps s t) (k : Keeps t u) : Keeps s u :=
  ⟨h.toLasting.trans k.toLasting, fun hb ht hm => k.matched (h.guidanceFits hb) (h.tables ht) (h.matched hb ht hm)⟩

theorem forEach_keepsLaws {α : Type} (f : α → State → State) (h : ∀ x s, Keeps s (f x s)) (l : List α) (s : State) :
    Keeps s (forEach l f s) :=
  forEach_rel Keeps Keeps.refl (fun _ _ _ => Keeps.trans) f h l s

/-! ### Changes no law reads -/

/-- The laws read of two states the same: the fans, queue and hold list, admin states, step states, and which numbers the tables
hold. -/
structure Calm (s t : State) : Prop where
  pending : t.pending = s.pending
  port : ∀ st, (s.port st).Quiet (t.port st)
  control : t.control = s.control
  queue : t.guidance.queue = s.guidance.queue
  holds : t.guidance.holds = s.guidance.holds
  fans : t.fans = s.fans
  admins : t.admins = s.admins
  rowSteps : t.rowSteps = s.rowSteps
  pairs : t.pairs.numbers = s.pairs.numbers
  levels : t.levels.numbers = s.levels.numbers
  heads : t.heads.numbers = s.heads.numbers
  zones : t.zones.numbers = s.zones.numbers
  bands : t.bands = s.bands
  health : t.loop.health = s.loop.health
  pendingBands : t.loop.pendingBands = s.loop.pendingBands

theorem Calm.refl (s : State) : Calm s s :=
  ⟨rfl, fun _ => .refl _, rfl, rfl, rfl, rfl, rfl, rfl, rfl, rfl, rfl, rfl, rfl, rfl, rfl⟩

theorem inRun_of_control (h : t.control = s.control) : t.inRun = s.inRun := by simp [State.inRun, h]

theorem bays_rising_of_admins (h : t.admins = s.admins) : t.bays.rising = s.bays.rising := by
  have := congrArg Table.rising h
  simpa [State.admins] using this

theorem rows_rising_of_rowSteps (h : t.rowSteps = s.rowSteps) : t.rows.rising = s.rows.rising := by
  have := congrArg Table.rising h
  simpa [State.rowSteps] using this

theorem Calm.keeps (h : Calm s t) : Keeps s t where
  pending := h.pending
  port := h.port
  queue := by rw [h.queue]; exact id
  holds := by rw [h.holds]; exact id
  tables := by
    rw [tablesRising_iff, tablesRising_iff, h.control, h.fans, bays_rising_of_admins h.admins,
      rows_rising_of_rowSteps h.rowSteps, Table.rising_congr _ _ h.pairs, Table.rising_congr _ _ h.levels,
      Table.rising_congr _ _ h.heads, Table.rising_congr _ _ h.zones]
    exact id
  addresses := by rw [addressTablesRising_iff, addressTablesRising_iff, h.bands, h.health, h.pendingBands]; exact id
  atRest := by rw [fansAtRest_iff, fansAtRest_iff, h.fans]; exact id
  classes := by rw [h.fans]; exact id
  steps := by rw [stepsHeld_iff, stepsHeld_iff, h.fans, h.rowSteps, inRun_of_control h.control]; exact id
  matched _ _ := by
    rw [holdsMatch_iff, holdsMatch_iff, h.admins, h.queue, h.holds, inRun_of_control h.control]; exact id

theorem Port.quiet_delivered (p : Port) (e : EventRecord) : p.Quiet (p.delivered e) := by
  unfold Port.delivered
  split
  next hroom => exact ⟨le_rfl, le_rfl, fun _ => by simpa using hroom⟩
  next => exact ⟨le_rfl, le_rfl, id⟩

theorem deliver_keeps (st : Station) (e : EventRecord) (s : State) : Keeps s (deliver st e s) := by
  refine Calm.keeps ?_
  constructor
  case port =>
    intro st'
    rw [deliver_port]
    split
    next => exact (s.port st').quiet_delivered e
    next => exact .refl _
  all_goals rw [deliver_eq_setPort]; cases st <;> rfl

theorem deliverMasked_keeps (st : Station) (e : EventRecord) (s : State) : Keeps s (deliverMasked st e s) := by
  unfold deliverMasked
  split
  · exact deliver_keeps st e s
  · exact .refl s

theorem post_keeps (kind : EventKind) (subject a b : Nat) (s : State) : Keeps s (post kind subject a b s) :=
  ((deliverMasked_keeps .supervisor _ s).trans (deliverMasked_keeps .lane _ _)).trans (deliverMasked_keeps .guidance _ _)

theorem postTo_keeps (st : Station) (kind : EventKind) (subject a b : Nat) (s : State) :
    Keeps s (postTo st kind subject a b s) := deliverMasked_keeps st _ s

theorem postRestarted_keeps (a b : Nat) (s : State) : Keeps s (postRestarted a b s) :=
  ((deliver_keeps .supervisor _ s).trans (deliver_keeps .lane _ _)).trans (deliver_keeps .guidance _ _)

/-- A change of records is no change of what is read of each. -/
theorem Table.mapRecords_modify {α β : Type} (g : Nat → α → β) (f : α → α) (k : Nat) (t : Table α)
    (h : ∀ x, t.find k = some x → g k (f x) = g k x) : (t.modify k f).mapRecords g = t.mapRecords g := by
  induction t with
  | nil => rfl
  | cons p rest ih =>
    obtain ⟨i, x⟩ := p
    rw [Table.modify]
    split
    next hik =>
      subst hik
      simp [Table.mapRecords, h x (by simp [Table.find_cons])]
    next hik =>
      have := ih fun x hx => h x (by simpa [Table.find_cons, hik] using hx)
      simpa [Table.mapRecords] using this

theorem modBay_keeps {n : Nat} {f : Bay → Bay} (hf : ∀ b, s.bays.find n = some b → (f b).admin = b.admin) :
    Keeps s (s.modBay n f) :=
  Calm.keeps { Calm.refl s with admins := Table.mapRecords_modify _ f n s.bays hf }

theorem modRow_keeps {n : Nat} {f : Row → Row} (hf : ∀ r, s.rows.find n = some r → (f r).step = r.step) :
    Keeps s (s.modRow n f) :=
  Calm.keeps { Calm.refl s with rowSteps := Table.mapRecords_modify _ f n s.rows hf }

theorem modPair_keeps (n : Nat) (f : RampPair → RampPair) (s : State) : Keeps s (s.modPair n f) :=
  Calm.keeps { Calm.refl s with pairs := Table.numbers_modify s.pairs n f }

theorem modLevel_keeps (n : Nat) (f : Level → Level) (s : State) : Keeps s (s.modLevel n f) :=
  Calm.keeps { Calm.refl s with levels := Table.numbers_modify s.levels n f }

theorem modHead_keeps (n : Nat) (f : Head → Head) (s : State) : Keeps s (s.modHead n f) :=
  Calm.keeps { Calm.refl s with heads := Table.numbers_modify s.heads n f }

theorem modZone_keeps (n : Nat) (f : Zone → Zone) (s : State) : Keeps s (s.modZone n f) :=
  Calm.keeps { Calm.refl s with zones := Table.numbers_modify s.zones n f }

theorem setSupply_keeps (u : Supply) (s : State) : Keeps s (s.setSupply u) := Calm.keeps { Calm.refl s with }

/-- A change of the field loop that leaves health records and pending band changes. -/
theorem setLoop_keeps {l : FieldLoop} (hh : l.health = s.loop.health) (hp : l.pendingBands = s.loop.pendingBands) :
    Keeps s (s.setLoop l) :=
  Calm.keeps { Calm.refl s with health := hh, pendingBands := hp }

/-- Changes of the tables by node address that leave their numbers rising. -/
theorem addresses_keeps {b : Table BandRecord} {l : FieldLoop} (hb : s.bands.rising = true → b.rising = true)
    (hh : s.loop.health.rising = true → l.health.rising = true)
    (hp : s.loop.pendingBands.rising = true → l.pendingBands.rising = true) : Keeps s { s with bands := b, loop := l } where
  pending := rfl
  port _ := .refl _
  queue := id
  holds := id
  tables := id
  addresses := by
    rw [addressTablesRising_iff, addressTablesRising_iff]
    exact fun ⟨h1, h2, h3⟩ => ⟨hb h1, hh h2, hp h3⟩
  atRest := id
  classes := id
  steps := id
  matched _ _ := id

theorem Table.rising_putD {α : Type} [DecidableEq α] {t : Table α} (k : Nat) (v d : α) (h : t.rising = true) :
    (t.putD k v d).rising = true := by
  unfold Table.putD
  split
  · exact Table.rising_erase t k h
  · exact Table.rising_put t k v h

/-! ### Changes of fans -/

theorem Table.mem_modify {α : Type} {t : Table α} {k : Nat} {f : α → α} {q : Nat × α} (h : q ∈ t.modify k f) :
    q ∈ t ∨ ∃ x, t.find k = some x ∧ q = (k, f x) := by
  induction t with
  | nil => cases h
  | cons p rest ih =>
    obtain ⟨i, x⟩ := p
    rw [Table.modify] at h
    split at h
    next hik =>
      rcases List.mem_cons.1 h with rfl | h
      · exact .inr ⟨x, by simp [Table.find_cons, hik], by rw [hik]⟩
      · exact .inl (List.mem_cons_of_mem _ h)
    next hik =>
      rcases List.mem_cons.1 h with rfl | h
      · exact .inl List.mem_cons_self
      · rcases ih h with h | ⟨y, hy, rfl⟩
        · exact .inl (List.mem_cons_of_mem _ h)
        · exact .inr ⟨y, by simpa [Table.find_cons, hik] using hy, rfl⟩

theorem Fan.Lawful.refl (run : Bool) (f : Fan) : f.Lawful run f := ⟨id, id, id⟩

/-- A change of the fans each of which comes from one in force by a lawful change. -/
theorem fans_keeps {u : Table Fan} (hn : u.numbers = s.fans.numbers)
    (hu : ∀ q ∈ u, ∃ p ∈ s.fans, p.2.Lawful s.inRun q.2) : Keeps s { s with fans := u } where
  pending := rfl
  port _ := .refl _
  queue := id
  holds := id
  tables := by
    rw [tablesRising_iff, tablesRising_iff, Table.rising_congr u s.fans hn]
    exact id
  addresses := id
  atRest := by
    rw [fansAtRest_iff, fansAtRest_iff]
    intro h q hq
    obtain ⟨p, hp, hlaw⟩ := hu q hq
    exact hlaw.atRest (h p hp)
  classes h q hq := by
    obtain ⟨p, hp, hlaw⟩ := hu q hq
    exact hlaw.classFits (h p hp)
  steps := by
    rw [stepsHeld_iff, stepsHeld_iff]
    refine fun ⟨hf, hr⟩ => ⟨fun q hq => ?_, hr⟩
    obtain ⟨p, hp, hlaw⟩ := hu q hq
    exact hlaw.stepFits (hf p hp)
  matched _ _ := id

theorem modFan_keeps {ch : Nat} {f : Fan → Fan} (hf : ∀ x, s.fans.find ch = some x → x.Lawful s.inRun (f x)) :
    Keeps s (s.modFan ch f) := by
  refine fans_keeps (Table.numbers_modify s.fans ch f) fun q hq => ?_
  rcases Table.mem_modify hq with hq | ⟨x, hx, rfl⟩
  · exact ⟨q, hq, .refl _ _⟩
  · exact ⟨(ch, x), Table.find_mem _ _ _ hx, hf x hx⟩

theorem mapFans_keeps {f : Nat → Fan → Fan} (hf : ∀ n (x : Fan), x.Lawful s.inRun (f n x)) :
    Keeps s { s with fans := s.fans.mapRecords f } := by
  refine fans_keeps (Table.numbers_mapRecords f s.fans) fun q hq => ?_
  obtain ⟨p, hp, rfl⟩ := List.mem_map.1 hq
  exact ⟨p, hp, hf p.1 p.2⟩

/-- Changes of the rows in RUN mode, where no law reads their step states. -/
theorem rows_keeps {u : Table Row} (hn : u.numbers = s.rows.numbers)
    (hu : s.inRun = true ∨ ((∀ p ∈ s.rows, p.2.step = .frozen) → ∀ q ∈ u, q.2.step = .frozen)) :
    Keeps s { s with rows := u } where
  pending := rfl
  port _ := .refl _
  queue := id
  holds := id
  tables := by
    rw [tablesRising_iff, tablesRising_iff, Table.rising_congr u s.rows hn]
    exact id
  addresses := id
  atRest := id
  classes := id
  steps := by
    rw [stepsHeld_iff, stepsHeld_iff, rowSteps_frozen_iff, rowSteps_frozen_iff]
    exact fun ⟨hf, hr⟩ => ⟨hf, hr.elim .inl fun hr => hu.imp id fun hu => hu hr⟩
  matched _ _ := id

theorem modRow_keeps_of_moving {n : Nat} {f : Row → Row}
    (hm : s.inRun = true ∨ ∀ r, s.rows.find n = some r → r.step ≠ .frozen) : Keeps s (s.modRow n f) := by
  refine rows_keeps (Table.numbers_modify s.rows n f) (hm.imp id fun hm hfrozen q hq => ?_)
  rcases Table.mem_modify hq with hq | ⟨r, hr, rfl⟩
  · exact hfrozen q hq
  · exact absurd (hfrozen _ (Table.find_mem _ _ _ hr)) (hm r hr)

end Sys2Proof.Machine
end

section
namespace Sys2Proof.Machine
variable {s t u : State}

/-! ### Tickets, queue and hold list -/

theorem insertHold_perm (now : Time) (h : Hold) (l : List Hold) : (insertHold now h l).Perm (h :: l) := by
  induction l with
  | nil => exact .refl _
  | cons x rest ih =>
    rw [insertHold]
    split
    · exact .refl _
    · exact (ih.cons x).trans (.swap h x rest)

theorem enqueue_perm (r : Request) (q : List Request) : (enqueue r q).Perm (r :: q) := by
  unfold enqueue
  split
  · calc q.takeWhile Request.isPriority ++ r :: q.dropWhile Request.isPriority
        |>.Perm (r :: (q.takeWhile Request.isPriority ++ q.dropWhile Request.isPriority)) := List.perm_middle
      _ = r :: q := by rw [List.takeWhile_append_dropWhile]
  · exact List.perm_append_singleton r q

theorem ticketLive_iff {g : Guidance} {t : Nat} : ticketLive g t = true ↔ t ∈ liveTickets g := by
  simp [ticketLive, liveTickets]

theorem ticketAfter_iterate {m : Nat} (h1 : 1 ≤ m) (h2 : m ≤ 65535) (i : Nat) :
    ticketAfter^[i] m = (m - 1 + i) % 65535 + 1 := by
  induction i with
  | zero => simp only [Function.iterate_zero, id_eq]; omega
  | succ i ih =>
    rw [Function.iterate_succ_apply', ih, ticketAfter]
    split <;> omega

theorem ticketAfter_range (n : Nat) : 1 ≤ ticketAfter n ∧ ticketAfter n ≤ 65535 := by
  unfold ticketAfter
  split <;> omega

/-- A live ticket is reached only past candidates every one of which is live. -/
theorem live_of_nextTicket_live {g : Guidance} {fuel n : Nat} (h : ticketLive g (nextTicket g fuel n) = true) :
    ∀ i ≤ fuel, ticketLive g (ticketAfter^[i] (ticketAfter n)) = true := by
  induction fuel generalizing n with
  | zero =>
    intro i hi
    obtain rfl : i = 0 := by omega
    exact h
  | succ fuel ih =>
    rw [nextTicket] at h
    split at h
    next hlive =>
      intro i hi
      cases i with
      | zero => exact hlive
      | succ i => exact ih h i (by omega)
    next hdead => exact absurd h hdead

/-- With no more live tickets than the numbers there are, the ticket issued is not live (R47). -/
theorem issueTicket_not_live {g : Guidance} (hlen : g.queue.length + g.holds.length < 65535) :
    issueTicket g ∉ liveTickets g := by
  intro hmem
  have hlive := live_of_nextTicket_live (ticketLive_iff.2 hmem)
  obtain ⟨h1, h2⟩ := ticketAfter_range g.lastTicket
  let candidate := fun i => ticketAfter^[i] (ticketAfter g.lastTicket)
  have hsub : (Finset.range (g.queue.length + g.holds.length + 1)).image candidate ⊆ (liveTickets g).toFinset := by
    intro t ht
    obtain ⟨i, hi, rfl⟩ := Finset.mem_image.1 ht
    exact List.mem_toFinset.2 (ticketLive_iff.1 (hlive i (Nat.lt_succ_iff.1 (Finset.mem_range.1 hi))))
  have hinj : Set.InjOn candidate (Finset.range (g.queue.length + g.holds.length + 1)) := by
    intro i hi j hj hij
    have hi := Finset.mem_range.1 (Finset.mem_coe.1 hi)
    have hj := Finset.mem_range.1 (Finset.mem_coe.1 hj)
    simp only [candidate, ticketAfter_iterate h1 h2] at hij
    omega
  have hcard := Finset.card_le_card hsub
  rw [Finset.card_image_of_injOn hinj, Finset.card_range] at hcard
  have hle := List.toFinset_card_le (liveTickets g)
  have hlength : (liveTickets g).length = g.queue.length + g.holds.length := by simp [liveTickets]
  omega

/-! ### Tickets and holds matched -/

section
variable {A : Table Admin} {q q' : List Request} {hs : List Hold} {run : Bool}

/-- The hold that names a bay is of the ticket the bay is HELD with. -/
theorem Matched.bay_ne (m : Matched A q hs run) {x h : Hold} (hx : x ∈ hs) (hh : h ∈ hs) (hne : x.ticket ≠ h.ticket) :
    x.bay ≠ h.bay := by
  intro heq
  have := (m.held x hx).symm.trans (heq ▸ m.held h hh)
  simp only [Option.some.injEq, Admin.held.injEq] at this
  exact hne this

theorem Matched.of_sublist (m : Matched A q hs run) (hsub : q'.Sublist q) : Matched A q' hs run where
  nodup := m.nodup.sublist ((hsub.map _).append_right _)
  held := m.held
  hold := m.hold
  config := m.config.imp id fun ⟨hq, hh⟩ => ⟨by simpa [hq] using hsub, hh⟩

/-- An admin state other than HELD in place of one other than HELD. -/
theorem Matched.setAdmin (m : Matched A q hs run) {n : Nat} {a : Admin}
    (hold : ∀ t, A.find n ≠ some (.held t)) (hnew : ∀ t, a ≠ .held t) :
    Matched (A.modify n fun _ => a) q hs run where
  nodup := m.nodup
  held h hh := by
    have hheld := m.held h hh
    have hne : h.bay ≠ n := fun heq => hold h.ticket (heq ▸ hheld)
    rw [Table.find_modify, if_neg hne, hheld]
  hold k t hmem := by
    rcases Table.mem_modify hmem with hmem | ⟨x, _, heq⟩
    · exact m.hold k t hmem
    · exact absurd (Prod.mk.inj heq).2.symm (hnew t)
  config := m.config

/-- A request served: its ticket goes from the queue to the hold list, its bay from OPEN to HELD (R56). -/
theorem Matched.serve (m : Matched A q hs run) {r : Request} (hr : r ∈ q) {h : Hold} (ht : h.ticket = r.ticket)
    (hopen : A.find h.bay = some .opened) (now : Time) :
    Matched (A.modify h.bay fun _ => .held r.ticket) (dropRequest q r.ticket) (insertHold now h hs) run where
  nodup := by
    have hperm : ((dropRequest q r.ticket).map (·.ticket) ++ (insertHold now h hs).map (·.ticket)).Perm
        (r.ticket :: ((dropRequest q r.ticket).map (·.ticket) ++ hs.map (·.ticket))) := by
      refine (((insertHold_perm now h hs).map _).append_left _).trans ?_
      rw [List.map_cons, ht]
      exact List.perm_middle
    rw [hperm.nodup_iff, List.nodup_cons]
    refine ⟨?_, m.nodup.sublist ((List.filter_sublist.map _).append_right _)⟩
    rw [List.mem_append, not_or]
    refine ⟨by simp [dropRequest], fun hmem => ?_⟩
    exact (List.nodup_append.1 m.nodup).2.2 _ (List.mem_map_of_mem hr) _ hmem rfl
  held x hx := by
    rcases List.mem_cons.1 ((insertHold_perm now h hs).mem_iff.1 hx) with rfl | hx
    · rw [Table.find_modify, if_pos rfl, hopen, ht]; rfl
    · have hheld := m.held x hx
      have hne : x.bay ≠ h.bay := fun heq => by rw [heq, hopen] at hheld; cases hheld
      rw [Table.find_modify, if_neg hne, hheld]
  hold k t hmem := by
    have hinsert {x : Hold} (hx : x = h ∨ x ∈ hs) : x ∈ insertHold now h hs :=
      (insertHold_perm now h hs).mem_iff.2 (List.mem_cons.2 hx)
    rcases Table.mem_modify hmem with hmem | ⟨x, _, heq⟩
    · obtain ⟨x, hx, hxt, hxb⟩ := m.hold k t hmem
      exact ⟨x, hinsert (.inr hx), hxt, hxb⟩
    · obtain ⟨hk, ha⟩ := Prod.mk.inj heq
      exact ⟨h, hinsert (.inl rfl), ht.trans (Admin.held.inj ha).symm, hk.symm⟩
  config := m.config.imp id fun ⟨hq, _⟩ => by simp [hq] at hr

/-- A hold ended: off the list, and its bay to a state other than HELD (R61). -/
theorem Matched.endHold (m : Matched A q hs run) (hA : A.rising = true) {h : Hold} (hh : h ∈ hs) {a : Admin}
    (hnew : ∀ t, a ≠ .held t) :
    Matched (A.modify h.bay fun _ => a) q (hs.filter fun x => decide (x.ticket ≠ h.ticket)) run where
  nodup := m.nodup.sublist ((List.filter_sublist.map _).append_left _)
  held x hx := by
    obtain ⟨hx, hne⟩ := List.mem_filter.1 hx
    rw [Table.find_modify, if_neg (m.bay_ne hx hh (of_decide_eq_true hne)), m.held x hx]
  hold k t hmem := by
    have hfind := (Table.find_eq_some_iff _ (by rwa [Table.rising_modify]) k _).2 hmem
    rw [Table.find_modify] at hfind
    split at hfind
    next => exact absurd (by cases hA' : A.find k <;> simp_all) (hnew t)
    next hne =>
      obtain ⟨x, hx, hxt, hxb⟩ := m.hold k t (Table.find_mem _ _ _ hfind)
      refine ⟨x, List.mem_filter.2 ⟨hx, decide_eq_true fun heq => hne ?_⟩, hxt, hxb⟩
      have hinj := List.inj_on_of_nodup_map (List.nodup_append.1 m.nodup).2.1
      rw [← hxb, hinj hx hh heq]
  config := m.config.imp id fun ⟨hq, hh⟩ => ⟨hq, by simp [hh]⟩

/-- A request with a ticket that is not live (R47, R49). -/
theorem Matched.enqueue (m : Matched A q hs run) (hrun : run = true) {r : Request}
    (hr : r.ticket ∉ q.map (·.ticket) ++ hs.map (·.ticket)) : Matched A (enqueue r q) hs run where
  nodup := by
    have hperm : ((Machine.enqueue r q).map (·.ticket) ++ hs.map (·.ticket)).Perm
        (r.ticket :: (q.map (·.ticket) ++ hs.map (·.ticket))) := ((enqueue_perm r q).map _).append_right _
    exact hperm.nodup_iff.2 (List.nodup_cons.2 ⟨hr, m.nodup⟩)
  held := m.held
  hold := m.hold
  config := .inl hrun

end

end Sys2Proof.Machine
end

section
namespace Sys2Proof.Machine
variable {s t u : State}

/-! ### Loads -/

theorem forEach_keeps_inRun {α : Type} {f : α → State → State} (hf : ∀ x u, u.inRun = true → Keeps u (f x u))
    (hc : ∀ x u, (f x u).control = u.control) (l : List α) (hrun : s.inRun = true) : Keeps s (forEach l f s) := by
  induction l generalizing s with
  | nil => exact .refl s
  | cons x l ih => exact (hf x s hrun).trans (ih ((inRun_of_control (hc x s)).trans hrun))

theorem Fan.Lawful.of_state_kept {run : Bool} {f g : Fan} (hst : g.state = f.state) (hcom : g.commanded = f.commanded)
    (hcls : g.cls = f.cls) (hfl : g.floor = f.floor) (hheld : g.rampHeld = true → f.rampHeld = true) : f.Lawful run g where
  atRest := by simp only [Fan.AtRest, hst, hcom]; exact id
  classFits := by simp only [Fan.ClassFits, hcls, hfl]; exact id
  stepFits := by
    simp only [Fan.StepFits, hst]
    exact fun ⟨hr, hrun⟩ => ⟨fun h => hr (hheld h), hrun⟩

/-- A fan in a state of RUN mode is of a part in RUN mode. -/
theorem Fan.StepFits.run_of_state {run : Bool} {f : Fan} (h : f.StepFits run)
    (hst : f.state ≠ .held ∧ f.state ≠ .faulted ∧ f.state ≠ .isolated) : run = true := by
  obtain ⟨_, hrun⟩ := h
  obtain ⟨h1, h2, h3⟩ := hst
  simpa [h1, h2, h3] using hrun

/-- A fan in a state of RUN mode may move to one where nothing is held and no law of rest is broken. -/
theorem Fan.Lawful.of_moving {run : Bool} {f g : Fan}
    (hst : run = true ∨ f.state ≠ .held ∧ f.state ≠ .faulted ∧ f.state ≠ .isolated)
    (hrest : f.AtRest → g.AtRest) (hcls : g.cls = f.cls) (hfl : g.floor = f.floor)
    (hheld : g.rampHeld = true → g.state = .stopped ∨ g.state = .accelerating) : f.Lawful run g where
  atRest := hrest
  classFits := by simp only [Fan.ClassFits, hcls, hfl]; exact id
  stepFits h := ⟨hheld, .inl (hst.elim id h.run_of_state)⟩

theorem rowRise_keeps {n : Nat} (hm : s.inRun = true ∨ ∀ r, s.rows.find n = some r → r.step ≠ .frozen) :
    Keeps s (rowRise n s) := by
  unfold rowRise
  split
  · exact .refl s
  · dsimp only
    split
    · exact modRow_keeps_of_moving hm
    · exact modRow_keeps_of_moving hm

/-- A fan that a start or acceleration step is tried of. -/
def Fan.Rises (f : Fan) : Prop := f.state = .stopped ∨ f.state = .accelerating

theorem fanRise_keeps {ch speed : Nat} (hup : ∀ f, s.fans.find ch = some f → f.Rises) :
    Keeps s (fanRise ch speed s) := by
  unfold fanRise
  split
  · exact .refl s
  · split
    · refine modFan_keeps fun f hf => .of_moving (.inr ?_) (fun _ => ?_) ?_ ?_ ?_
      · rcases hup f hf with h | h <;> simp [h]
      · unfold Fan.afterRise; split <;> simp [Fan.AtRest]
      all_goals unfold Fan.afterRise; split <;> simp
    · refine modFan_keeps fun f hf => .of_moving (.inr ?_) id rfl rfl fun _ => hup f hf
      rcases hup f hf with h | h <;> simp [h]

theorem fanStart_keeps {ch : Nat} (hup : ∀ f, s.fans.find ch = some f → f.Rises) : Keeps s (fanStart ch s) := by
  unfold fanStart
  split
  · exact fanRise_keeps hup
  · exact .refl s

theorem fanAccelerate_keeps {ch : Nat} (hup : ∀ f, s.fans.find ch = some f → f.Rises) :
    Keeps s (fanAccelerate ch s) := by
  unfold fanAccelerate
  split
  · exact fanRise_keeps hup
  · exact .refl s

theorem Fan.lawful_onGrant (run : Bool) (now : Time) (g : Nat) (f : Fan) : f.Lawful run (f.onGrant now g) := by
  have stays {st : FanState} (hst : f.state = st) : f.Lawful run { f with granted := g, state := st } :=
    .of_state_kept hst.symm rfl rfl rfl id
  have moves {x : Fan} (hst : f.state = .accelerating ∨ f.state = .steady ∨ f.state = .decelerating)
      (hx : x.state = .accelerating ∨ (x.state = .steady ∨ x.state = .decelerating) ∧ x.rampHeld = false)
      (hcls : x.cls = f.cls) (hfl : x.floor = f.floor) : f.Lawful run x := by
    refine .of_moving (.inr ?_) (fun _ => ?_) hcls hfl fun hheld => ?_
    · rcases hst with hst | hst | hst <;> simp [hst]
    · rcases hx with hx | ⟨hx | hx, _⟩ <;> simp [Fan.AtRest, hx]
    · exact hx.elim .inr fun hx => absurd hheld (by simp [hx.2])
  cases hst : f.state with
  | stopped =>
    simp only [Fan.onGrant, hst]
    split
    · exact stays hst
    · exact .of_state_kept hst.symm rfl rfl rfl (by simp)
  | accelerating =>
    simp only [Fan.onGrant, hst]
    split
    · exact stays hst
    · split <;> exact moves (by simp [hst]) (by simp [Fan.startDecel]) rfl rfl
  | steady =>
    simp only [Fan.onGrant, hst]
    split
    · exact moves (by simp [hst]) (.inl rfl) rfl rfl
    · split
      · exact stays hst
      · exact moves (by simp [hst]) (by simp [Fan.startDecel]) rfl rfl
  | decelerating =>
    simp only [Fan.onGrant, hst]
    split
    · exact moves (by simp [hst]) (.inl rfl) rfl rfl
    · split
      · exact moves (by simp [hst]) (by simp) rfl rfl
      · exact stays hst
  | reversingDown | reverseDwell | faulted | isolated | held =>
    simp only [Fan.onGrant, hst]
    exact stays hst

theorem grantFan_keeps (ch g : Nat) (s : State) : Keeps s (grantFan ch g s) := by
  cases hfind : s.fans.find ch with
  | none => simpa [grantFan, hfind] using Keeps.refl s
  | some f =>
    by_cases hstart : f.startsOn g
    · rw [grantFan_of_start hfind hstart]
      have hstored : Keeps s (s.modFan ch fun _ => { f with granted := g }) :=
        modFan_keeps fun x hx => by
          obtain rfl : f = x := Option.some.inj (hfind.symm.trans hx)
          exact .of_state_kept rfl rfl rfl rfl id
      refine hstored.trans (fanRise_keeps fun x hx => ?_)
      rw [modFan_find _ hfind] at hx
      cases hx
      exact .inl hstart.1
    · rw [grantFan_of_no_start hfind hstart]
      exact modFan_keeps fun x hx => by
        obtain rfl : f = x := Option.some.inj (hfind.symm.trans hx)
        exact f.lawful_onGrant _ _ _

theorem retryLoad_keeps (l : Load) (hrun : s.inRun = true) : Keeps s (retryLoad l s) := by
  cases l with
  | row n => exact rowRise_keeps (.inl hrun)
  | fan ch =>
    simp only [retryLoad]
    split
    next f hfind =>
      have rises (h : f.Rises) : ∀ x, s.fans.find ch = some x → x.Rises := fun x hx => by
        rwa [← Option.some.inj (hfind.symm.trans hx)]
      split
      next h => exact fanStart_keeps (rises (.inl h))
      next =>
        split
        next h => exact fanAccelerate_keeps (rises (.inr h))
        next => exact .refl s
    next => exact .refl s

theorem retryHeld_keeps (hrun : s.inRun = true) : Keeps s (retryHeld s) :=
  forEach_keeps_inRun (fun l _ => retryLoad_keeps l) (fun l u => (retryLoad_within l u).control_eq (by decide)) _ hrun

theorem retryOnDecrease_keeps (before s : State) : Keeps s (retryOnDecrease before s) := by
  unfold retryOnDecrease
  split
  next h => exact retryHeld_keeps (by simp only [Bool.and_eq_true] at h; exact h.1)
  next => exact .refl s

theorem handGrant_keeps (all : Bool) (x : Load × Nat) (hrun : s.inRun = true) : Keeps s (handGrant all x s) := by
  obtain ⟨l, g⟩ := x
  unfold handGrant
  split
  · cases l with
    | fan ch => exact grantFan_keeps ch g s
    | row n => exact modRow_keeps_of_moving (.inl hrun)
  · exact .refl s

theorem judgeShort_keeps (s : State) : Keeps s (judgeShort s) := by
  unfold judgeShort
  have hset := setSupply_keeps { s.supply with short := decide (s.allowance < s.supply.floorTotal) } s
  dsimp only
  split
  · exact hset.trans (post_keeps ..)
  · split
    · exact hset.trans (post_keeps ..)
    · exact hset

theorem compute_keeps (all : Bool) (hrun : s.inRun = true) : Keeps s (compute all s) := by
  have hrecord : (recordDivision (divide s) s).inRun = true := hrun
  have hgrants := forEach_within (handGrant all) (handGrant_within all) (grantsOf s (divide s)) (recordDivision (divide s) s)
  have hgranted := (inRun_of_control (hgrants.control_eq (by decide))).trans hrecord
  exact ((setSupply_keeps _ s).trans
    ((forEach_keeps_inRun (fun x _ => handGrant_keeps all x) (fun x u => (handGrant_within all x u).control_eq (by decide)) _
      hrecord).trans ((retryHeld_keeps hgranted).trans (judgeShort_keeps _))))

theorem Fan.lawful_formRequest (s : State) (f : Fan) : f.Lawful s.inRun (s.formRequest f) := by
  unfold State.formRequest
  split
  next z _ =>
    refine ⟨id, fun _ => ?_, id⟩
    simp only [Fan.ClassFits, Zone.fanClass, FanCfg.floorFor]
    split <;> simp
  next => exact .refl _ f

theorem handDemands_keeps (s : State) : Keeps s (handDemands s) := mapFans_keeps fun _ f => f.lawful_formRequest s

theorem settle_keeps (before s : State) : Keeps s (settle before s) := by
  unfold settle
  split
  next hrun =>
    dsimp only
    split
    · exact (handDemands_keeps s).trans (compute_keeps false hrun)
    · exact handDemands_keeps s
  next => exact .refl s

theorem leaveLoads_keeps (before s : State) : Keeps s (leaveLoads before s) :=
  (retryOnDecrease_keeps before s).trans (settle_keeps before _)

theorem Fan.lawful_withdrawn (run : Bool) (f : Fan) {state : FanState} (h : state = .faulted ∨ state = .isolated) :
    f.Lawful run (f.withdrawn state) where
  atRest _ _ := rfl
  classFits := id
  stepFits _ := ⟨by simp [Fan.withdrawn], .inr (.inr h)⟩

theorem fanToFault_keeps (ch : Nat) (s : State) : Keeps s (fanToFault ch s) := by
  unfold fanToFault
  split
  · exact .refl s
  · exact (modFan_keeps fun f _ => f.lawful_withdrawn _ (.inl rfl)).trans (post_keeps ..)

theorem beginReversal_keeps (ch : Nat) (s : State) : Keeps s (beginReversal ch s) := by
  unfold beginReversal
  split
  · exact .refl s
  next f hfind =>
    split
    next h =>
      have hrun : s.inRun = true := by simp only [Bool.and_eq_true] at h; exact h.1.1
      split
      next => exact modFan_keeps fun x _ => .of_moving (.inl hrun) (by simp [Fan.AtRest, Fan.startDecel]) rfl rfl (by simp [Fan.startDecel])
      next hzero =>
        refine modFan_keeps fun x hx => .of_moving (.inl hrun) (fun _ _ => ?_) rfl rfl (by simp)
        obtain rfl : f = x := Option.some.inj (hfind.symm.trans hx)
        exact Nat.eq_zero_of_not_pos hzero
    next => exact .refl s

/-! ### Rows triggered, movements, census -/

theorem levelCheckFrom_keeps (was level : Nat) (s : State) : Keeps s (levelCheckFrom was level s) := by
  unfold levelCheckFrom
  dsimp only
  split
  · exact post_keeps ..
  · split
    · exact post_keeps ..
    · exact .refl s

theorem levelCheck_keeps (before : State) (level : Nat) (s : State) : Keeps s (levelCheck before level s) :=
  levelCheckFrom_keeps _ level s

theorem triggerRow_keeps (n : Nat) (s : State) : Keeps s (triggerRow n s) := modRow_keeps fun _ _ => rfl

theorem triggerRows_keeps (rows : List Nat) (s : State) : Keeps s (triggerRows rows s) :=
  forEach_keepsLaws _ triggerRow_keeps rows s

theorem movement_keeps (level : Nat) (s : State) : Keeps s (movement level s) := modLevel_keeps ..

theorem updateDrift_keeps (level : Nat) (s : State) : Keeps s (updateDrift level s) := modLevel_keeps ..

theorem setPending_keeps (level : Nat) (s : State) : Keeps s (setPending level s) := modLevel_keeps ..

theorem driftExpire_keeps (level : Nat) (s : State) : Keeps s (driftExpire level s) := by
  unfold driftExpire
  split
  · exact .refl s
  · split
    · exact (modLevel_keeps ..).trans (post_keeps ..)
    · exact .refl s

theorem censusCheck_keeps (level : Nat) (s : State) : Keeps s (censusCheck level s) := by
  unfold censusCheck
  split
  · exact .refl s
  · split
    · exact ((modLevel_keeps ..).trans (post_keeps ..)).trans (updateDrift_keeps ..)
    · exact .refl s

theorem afterPresentChange_keeps (level : Nat) (s : State) : Keeps s (afterPresentChange level s) :=
  (updateDrift_keeps ..).trans (censusCheck_keeps ..)

theorem countCrossing_keeps (pair level : Nat) (up : Bool) (s : State) : Keeps s (countCrossing pair level up s) := by
  unfold countCrossing
  split
  · exact .refl s
  · split
    · split
      · exact modLevel_keeps ..
      · exact post_keeps ..
    · split
      · exact modLevel_keeps ..
      · exact post_keeps ..

theorem moveCounts_keeps (pair : Nat) (c : PairCfg) (down : Bool) (s : State) : Keeps s (moveCounts pair c down s) := by
  unfold moveCounts
  cases c.upper with
  | street => exact countCrossing_keeps ..
  | level u => exact (countCrossing_keeps ..).trans (countCrossing_keeps ..)

theorem crossing_keeps (pair : Nat) (c : PairCfg) (down : Bool) (s : State) : Keeps s (crossing pair c down s) :=
  (((moveCounts_keeps pair c down s).trans (forEach_keepsLaws _ movement_keeps _ _)).trans (triggerRows_keeps ..)).trans
    (forEach_keepsLaws _ updateDrift_keeps _ _)

theorem returnToIdle_keeps (pair : Nat) (s : State) : Keeps s (returnToIdle pair s) := by
  unfold returnToIdle
  split
  · exact .refl s
  · refine Keeps.trans ?_ (forEach_keepsLaws _ censusCheck_keeps _ _)
    split
    · exact modPair_keeps ..
    · split
      · exact (modPair_keeps ..).trans (crossing_keeps ..)
      · split
        · exact (modPair_keeps ..).trans (crossing_keeps ..)
        · exact modPair_keeps ..

theorem decoderStep_keeps (pair : Nat) (a b : Bool) (s : State) : Keeps s (decoderStep pair a b s) := by
  unfold decoderStep
  split
  · exact .refl s
  · have hidle (u : State) (h : Keeps s u) : Keeps s (if phaseOf a b = 0 then returnToIdle pair u else u) := by
      split
      · exact h.trans (returnToIdle_keeps ..)
      · exact h
    refine hidle _ ?_
    split
    · exact modPair_keeps ..
    · exact modPair_keeps ..
    · exact (modPair_keeps ..).trans (post_keeps ..)

theorem settleExpire_keeps (pair : Nat) (s : State) : Keeps s (settleExpire pair s) := by
  unfold settleExpire
  split
  · exact .refl s
  · dsimp only
    split
    · split
      · exact modPair_keeps ..
      · exact (modPair_keeps ..).trans (decoderStep_keeps ..)
    · exact .refl s

end Sys2Proof.Machine
end

section
/-! The allocation unit (chapter 3) keeps the laws: requests served, holds ended, admin states set. -/

namespace Sys2Proof.Machine
variable {s t u : State}

/-! ### Postings and the allocation unit's own state -/

theorem deliver_setGuidance (st : Station) (e : EventRecord) (g : Guidance) (s : State) :
    deliver st e (s.setGuidance g) = (deliver st e s).setGuidance g := by
  rw [deliver_eq_setPort, deliver_eq_setPort, State.port_setGuidance]
  cases st <;> rfl

theorem deliverMasked_setGuidance (st : Station) (e : EventRecord) (g : Guidance) (s : State) :
    deliverMasked st e (s.setGuidance g) = (deliverMasked st e s).setGuidance g := by
  unfold deliverMasked
  rw [State.port_setGuidance, deliver_setGuidance]
  split <;> rfl

theorem post_setGuidance (kind : EventKind) (subject a b : Nat) (g : Guidance) (s : State) :
    post kind subject a b (s.setGuidance g) = (post kind subject a b s).setGuidance g := by
  simp only [post, deliverMasked_setGuidance]
  rfl

theorem levelCheck_setGuidance (before : State) (level : Nat) (g : Guidance) (s : State) :
    levelCheck before level (s.setGuidance g) = (levelCheck before level s).setGuidance g := by
  have htotal : (s.setGuidance g).levelOffered level = s.levelOffered level := rfl
  have hfree : (s.setGuidance g).levelFree level = s.levelFree level := rfl
  simp only [levelCheck, levelCheckFrom, htotal, hfree, post_setGuidance]
  split
  · rfl
  · split <;> rfl

theorem setAdmin_of_find {bay : Nat} {b : Bay} (hfind : s.bays.find bay = some b) (a : Admin) :
    setAdmin bay a s = levelCheck s (s.rowLevel b.cfg.row) (s.modBay bay fun b => { b with admin := a }) := by
  simp [setAdmin, hfind]

theorem setAdmin_of_not_find {bay : Nat} (hfind : s.bays.find bay = none) (a : Admin) : setAdmin bay a s = s := by
  simp [setAdmin, hfind]

/-- The events of a change of admin state keep what the change itself keeps. -/
theorem setAdmin_keeps_of {bay : Nat} {a : Admin}
    (h : Keeps s (u.modBay bay fun b => { b with admin := a })) : Keeps s (setAdmin bay a u) := by
  cases hfind : u.bays.find bay with
  | none =>
    rw [setAdmin_of_not_find hfind]
    simpa only [State.modBay, Table.modify_of_not_find _ _ _ hfind] using h
  | some b =>
    rw [setAdmin_of_find hfind]
    exact h.trans (levelCheck_keeps ..)

/-- Changes of the bays and the allocation unit alone. -/
theorem allocation_lasting {b : Table Bay} {g : Guidance} (hn : b.numbers = s.bays.numbers)
    (hq : s.guidance.queue.length ≤ 32 → g.queue.length ≤ 32) (hh : s.guidance.holds.length ≤ 64 → g.holds.length ≤ 64) :
    Lasting s { s with bays := b, guidance := g } where
  pending := rfl
  port _ := .refl _
  queue := hq
  holds := hh
  tables := by
    rw [tablesRising_iff, tablesRising_iff, Table.rising_congr b s.bays hn]
    exact id
  addresses := id
  atRest := id
  classes := id
  steps := id

theorem admins_rising (ht : TablesRising s = true) : s.admins.rising = true := by
  obtain ⟨⟨hbays, _⟩, _⟩ := tablesRising_iff.1 ht
  simpa [State.admins] using hbays

theorem Table.modify_mapRecords {α β : Type} {f : α → α} {f' : β → β} {g : α → β} (h : ∀ x, g (f x) = f' (g x)) (k : Nat)
    (t : Table α) : (t.modify k f).mapRecords (fun _ x => g x) = (t.mapRecords fun _ x => g x).modify k f' := by
  induction t with
  | nil => rfl
  | cons p rest ih =>
    obtain ⟨i, x⟩ := p
    by_cases hik : i = k
    · simp [Table.modify, Table.mapRecords, hik, h]
    · simpa [Table.modify, Table.mapRecords, hik] using ih

/-- The admin states after one of them is set. -/
theorem admins_modBay (bay : Nat) (a : Admin) (s : State) :
    (s.modBay bay fun b => { b with admin := a }).admins = s.admins.modify bay fun _ => a :=
  Table.modify_mapRecords (g := Bay.admin) (f' := fun _ => a) (fun _ => rfl) bay s.bays

theorem admins_find {bay : Nat} {b : Bay} (hfind : s.bays.find bay = some b) : s.admins.find bay = some b.admin := by
  simp [State.admins, hfind]

/-- A bay taken from a state other than HELD to one other than HELD. -/
theorem setAdmin_keeps {bay : Nat} {a : Admin} (hold : HoldsMatch s = true → ∀ b t, s.bays.find bay = some b → b.admin ≠ .held t)
    (hnew : ∀ t, a ≠ .held t) : Keeps s (setAdmin bay a s) := by
  refine setAdmin_keeps_of { allocation_lasting (Table.numbers_modify s.bays bay _) id id with matched := fun _ _ hm => ?_ }
  have m := holdsMatch_iff.1 hm
  rw [holdsMatch_iff, admins_modBay]
  refine m.setAdmin (fun t hfind => ?_) hnew
  simp only [State.admins, Table.find_mapRecords, Option.map_eq_some_iff] at hfind
  obtain ⟨b, hb, hadmin⟩ := hfind
  exact hold hm b t hb hadmin

theorem removeRequest_keeps (t : Nat) (s : State) : Keeps s (removeRequest t s) where
  toLasting := allocation_lasting rfl (fun h => (List.length_filter_le _ _).trans h) id
  matched _ _ hm := holdsMatch_iff.2 ((holdsMatch_iff.1 hm).of_sublist List.filter_sublist)

/-! ### Requests served -/

/-- A request served up to the hand-over to the bay table: its bay HELD, its hold in the list, and the request out of the queue
(R56). -/
def reserved (r : Request) (bay : Nat) (b : Bay) (s : State) : State :=
  (s.modBay bay fun b => { b with admin := .held r.ticket }).setGuidance
    { s.guidance with
      holds := insertHold s.deckTime (holdFor s r bay b) s.guidance.holds
      queue := dropRequest s.guidance.queue r.ticket }

/-- The steps of serving after the hand-over: BAY_ASSIGNED, the movement and the triggers (R56). -/
def serveTold (own : Option Nat) (r : Request) (bay : Nat) (b : Bay) (h : Hold) (s : State) : State :=
  triggerRows h.path
    (movement h.level
      (if own = some r.ticket then s else postTo r.station .bayAssigned r.ticket bay (h.level * 256 + b.cfg.row) s))

theorem serve_eq {bay : Nat} {b b' : Bay} (own : Option Nat) (r : Request) (hfind : s.bays.find bay = some b') :
    serve own r bay b s =
      serveTold own r bay b (holdFor s r bay b) (levelCheck s (s.rowLevel b'.cfg.row) (reserved r bay b s)) := by
  have hg := (levelCheck_within s (s.rowLevel b'.cfg.row) (s.modBay bay fun b => { b with admin := .held r.ticket }))
  simp only [serve, reserved, serveTold, levelCheck_setGuidance, setAdmin_of_find hfind, hg.guidance_eq (by decide),
    hg.deckTime]
  rfl

theorem serveTold_keeps (own : Option Nat) (r : Request) (bay : Nat) (b : Bay) (h : Hold) (s : State) :
    Keeps s (serveTold own r bay b h s) := by
  refine Keeps.trans ?_ (triggerRows_keeps ..)
  refine Keeps.trans ?_ (movement_keeps ..)
  split
  · exact .refl s
  · exact postTo_keeps ..

theorem insertHold_length (now : Time) (h : Hold) (l : List Hold) : (insertHold now h l).length = l.length + 1 :=
  (insertHold_perm now h l).length_eq

theorem reserved_lasting (r : Request) (bay : Nat) (b : Bay) (hroom : s.guidance.holds.length < 64) :
    Lasting s (reserved r bay b s) :=
  allocation_lasting (Table.numbers_modify s.bays bay _) (fun h => (List.length_filter_le _ _).trans h)
    (fun _ => (insertHold_length ..).trans_le hroom)

theorem reserved_matched {r : Request} {bay : Nat} {b : Bay} (m : HoldsMatch s = true) (hr : r ∈ s.guidance.queue)
    (hfind : s.bays.find bay = some b) (hopen : b.admin = .opened) : HoldsMatch (reserved r bay b s) = true := by
  have hadmin : s.admins.find bay = some .opened := hopen ▸ admins_find hfind
  have hserved := (holdsMatch_iff.1 m).serve hr (h := holdFor s r bay b) rfl hadmin s.deckTime
  rw [holdsMatch_iff]
  exact admins_modBay bay (.held r.ticket) s ▸ hserved

/-- A chosen bay is one in force that is a candidate. -/
theorem bestOf_mem {cls : Nat} {l : List (Nat × Bay)} {x : Nat × Bay} (h : bestOf s cls l = some x) : x ∈ l := by
  induction l generalizing x with
  | nil => cases h
  | cons y rest ih =>
    rw [bestOf] at h
    split at h
    next => cases h; exact List.mem_cons_self
    next z hz =>
      split at h <;> cases h
      · exact List.mem_cons_of_mem _ (ih hz)
      · exact List.mem_cons_self

theorem chooseBay_mem {cls n : Nat} {b : Bay} (h : chooseBay s cls = some (n, b)) :
    (n, b) ∈ s.bays ∧ isCandidate s cls b = true :=
  List.mem_filter.1 (bestOf_mem h)

theorem isCandidate_iff {cls : Nat} {b : Bay} :
    isCandidate s cls b = true ↔ b.admin = .opened ∧ b.sensed = .vacant ∧ s.rowStage b.cfg.row < 4 ∧
      rankOf s.guidance cls b.cfg.cls < 2 := by
  simp [isCandidate, Bay.isFree, and_assoc]

theorem Table.find_isSome_of_mem {α : Type} {t : Table α} {k : Nat} {x : α} (h : (k, x) ∈ t) : ∃ y, t.find k = some y := by
  induction t with
  | nil => cases h
  | cons p rest ih =>
    obtain ⟨i, y⟩ := p
    rw [Table.find_cons]
    split
    · exact ⟨y, rfl⟩
    next hik =>
      refine ih ((List.mem_cons.1 h).resolve_left fun heq => hik ?_)
      exact (Prod.mk.inj heq).1.symm

theorem serve_lasting {r : Request} {n : Nat} {b : Bay} (own : Option Nat) (hroom : s.guidance.holds.length < 64)
    (hmem : (n, b) ∈ s.bays) : Lasting s (serve own r n b s) := by
  obtain ⟨b', hfind⟩ := Table.find_isSome_of_mem hmem
  rw [serve_eq own r hfind]
  exact (reserved_lasting r n b hroom).trans ((levelCheck_keeps ..).trans (serveTold_keeps ..)).toLasting

theorem serve_matched {r : Request} {n : Nat} {b : Bay} (own : Option Nat) (hroom : s.guidance.holds.length < 64)
    (hchoose : chooseBay s r.cls = some (n, b)) (hr : r ∈ s.guidance.queue) (hb : GuidanceFits s)
    (ht : TablesRising s = true) (hm : HoldsMatch s = true) : HoldsMatch (serve own r n b s) = true := by
  obtain ⟨hmem, hcandidate⟩ := chooseBay_mem hchoose
  obtain ⟨hopen, _⟩ := isCandidate_iff.1 hcandidate
  have hrising : s.bays.rising = true := (tablesRising_iff.1 ht).1.1
  have hfind := (Table.find_eq_some_iff _ hrising n b).2 hmem
  have hlasting := reserved_lasting r n b hroom
  rw [serve_eq own r hfind]
  exact ((levelCheck_keeps ..).trans (serveTold_keeps ..)).matched (hlasting.guidanceFits hb) (hlasting.tables ht)
    (reserved_matched hm hr hfind hopen)

theorem serve_guidance {r : Request} {n : Nat} {b : Bay} (own : Option Nat) (hmem : (n, b) ∈ s.bays) :
    (serve own r n b s).guidance =
      { s.guidance with
        holds := insertHold s.deckTime (holdFor s r n b) s.guidance.holds
        queue := dropRequest s.guidance.queue r.ticket } := by
  obtain ⟨b', hfind⟩ := Table.find_isSome_of_mem hmem
  rw [serve_eq own r hfind, serveTold, (triggerRows_within _ _).guidance_eq (by decide), movement, State.modLevel_guidance]
  split
  · rw [(levelCheck_within _ _ _).guidance_eq (by decide)]; rfl
  · rw [(postTo_within _ _ _ _ _ _).guidance_eq (by decide), (levelCheck_within _ _ _).guidance_eq (by decide)]; rfl

theorem passOver_lasting (own : Option Nat) (l : List Request) (s : State) : Lasting s (passOver own l s) := by
  induction l generalizing s with
  | nil => exact .refl s
  | cons r rest ih =>
    rw [passOver]
    split
    next hroom =>
      split
      next => exact ih s
      next n b hchoose => exact (serve_lasting own hroom (chooseBay_mem hchoose).1).trans (ih _)
    next => exact .refl s

theorem passOver_matched (own : Option Nat) (l : List Request) (hsub : l.Sublist s.guidance.queue) (hb : GuidanceFits s)
    (ht : TablesRising s = true) (hm : HoldsMatch s = true) : HoldsMatch (passOver own l s) = true := by
  induction l generalizing s with
  | nil => exact hm
  | cons r rest ih =>
    rw [passOver]
    split
    next hroom =>
      split
      next => exact ih ((List.sublist_cons_self r rest).trans hsub) hb ht hm
      next n b hchoose =>
        have hmem := (chooseBay_mem hchoose).1
        have hlasting := serve_lasting (r := r) own hroom hmem
        refine ih ?_ (hlasting.guidanceFits hb) (hlasting.tables ht)
          (serve_matched own hroom hchoose (hsub.subset List.mem_cons_self) hb ht hm)
        rw [serve_guidance own hmem]
        have hnodup := ((List.nodup_append.1 (holdsMatch_iff.1 hm).nodup).1.sublist (hsub.map _))
        rw [List.map_cons, List.nodup_cons] at hnodup
        have hrest : rest.filter (fun x => decide (x.ticket ≠ r.ticket)) = rest := by
          rw [List.filter_eq_self]
          exact fun x hx => decide_eq_true fun heq => hnodup.1 (heq ▸ List.mem_map_of_mem hx)
        exact hrest ▸ ((List.sublist_cons_self r rest).trans hsub).filter _
    next => exact hm

theorem allocationPassFor_keeps (own : Option Nat) (s : State) : Keeps s (allocationPassFor own s) :=
  ⟨passOver_lasting own _ s, passOver_matched own _ (.refl _)⟩

theorem allocationPass_keeps (s : State) : Keeps s (allocationPass s) := allocationPassFor_keeps none s

/-! ### Ends of holds -/

theorem endHold_keeps {h : Hold} (hh : h ∈ s.guidance.holds) {after : Admin} (hafter : ∀ t, after ≠ .held t) (kind : EventKind)
    (a b : Nat) : Keeps s (endHold h after kind a b s) := by
  refine Keeps.trans (setAdmin_keeps_of ?_) (postTo_keeps ..)
  refine { allocation_lasting (g := { s.guidance with holds := s.guidance.holds.filter fun x => decide (x.ticket ≠ h.ticket) })
    (Table.numbers_modify s.bays h.bay _) id (fun hl => (List.length_filter_le _ _).trans hl) with
    matched := fun _ ht hm => ?_ }
  have m := (holdsMatch_iff.1 hm).endHold (admins_rising ht) hh hafter
  rw [holdsMatch_iff]
  exact admins_modBay h.bay after s ▸ m

theorem lapseHold_keeps {h : Hold} (hh : h ∈ s.guidance.holds) {after : Admin} (hafter : ∀ t, after ≠ .held t) (reason : Nat) :
    Keeps s (lapseHold h after reason s) := endHold_keeps hh hafter ..

theorem findHold_mem {l : List Hold} {t : Nat} {h : Hold} (hf : findHold l t = some h) : h ∈ l := List.mem_of_find?_eq_some hf

theorem findHold_ticket {l : List Hold} {t : Nat} {h : Hold} (hf : findHold l t = some h) : h.ticket = t := by
  simpa using List.find?_some hf

/-- The hold that stands before another where a bay is met by substitution: issued earlier, or at the same time with a lesser
ticket (R64). -/
def earlierHold (now : Time) (h x : Hold) : Hold :=
  if Time.since now x.issued < Time.since now h.issued then h
  else if Time.since now h.issued = Time.since now x.issued then (if h.ticket ≤ x.ticket then h else x)
  else x

/-- The first of several holds in the order of R64. -/
def earliestHold (now : Time) : List Hold → Option Hold
  | [] => none
  | h :: rest =>
    match earliestHold now rest with
    | none => some h
    | some x => some (earlierHold now h x)

/-- Whether a hold may be met by substitution from a row: its bay is in that row and VACANT (R64). -/
def State.meetsFrom (s : State) (row : Nat) (h : Hold) : Bool :=
  match s.bays.find h.bay with
  | some b => decide (b.cfg.row = row) && decide (b.sensed = .vacant)
  | none => false

theorem substituteFor_eq (s : State) (row : Nat) :
    substituteFor s row = earliestHold s.deckTime (s.guidance.holds.filter (s.meetsFrom row)) := by
  have hfold (l : List Hold) : l.foldr
      (fun h best =>
        match best with
        | none => some h
        | some x =>
          let age := Time.since s.deckTime h.issued
          let ageX := Time.since s.deckTime x.issued
          if ageX < age then some h
          else if age = ageX then (if h.ticket ≤ x.ticket then some h else some x)
          else some x)
      none = earliestHold s.deckTime l := by
    induction l with
    | nil => rfl
    | cons h rest ih =>
      rw [List.foldr_cons, ih, earliestHold]
      split
      · rfl
      · simp only [earlierHold]
        split
        · rfl
        · split
          · split <;> rfl
          · rfl
  exact hfold _

theorem earlierHold_eq_or (now : Time) (h x : Hold) : earlierHold now h x = h ∨ earlierHold now h x = x := by
  unfold earlierHold
  split
  · exact .inl rfl
  · split
    · split
      · exact .inl rfl
      · exact .inr rfl
    · exact .inr rfl

theorem earliestHold_mem {now : Time} {l : List Hold} {h : Hold} (hl : earliestHold now l = some h) : h ∈ l := by
  induction l generalizing h with
  | nil => cases hl
  | cons y rest ih =>
    rw [earliestHold] at hl
    split at hl
    next => cases hl; exact List.mem_cons_self
    next x hx =>
      cases hl
      rcases earlierHold_eq_or now y x with heq | heq <;> rw [heq]
      · exact List.mem_cons_self
      · exact List.mem_cons_of_mem _ (ih hx)

theorem substituteFor_mem {row : Nat} {h : Hold} (hs : substituteFor s row = some h) : h ∈ s.guidance.holds := by
  rw [substituteFor_eq] at hs
  exact List.mem_of_mem_filter (earliestHold_mem hs)

theorem takeArrival_keeps (bay : Nat) (b : Bay) (wasVacant : Bool) (s : State) :
    Keeps s (takeArrival bay b wasVacant s) := by
  have met {h : Hold} (hh : h ∈ s.guidance.holds) (k : Nat) :
      Keeps s (allocationPass (endHold h .opened .holdMet bay k s)) :=
    (endHold_keeps hh (by simp) ..).trans (allocationPass_keeps _)
  unfold takeArrival
  split
  next t _ =>
    split
    next h hh => exact met (findHold_mem hh) _
    next => exact .refl s
  next =>
    split
    next =>
      split
      next h hh => exact met (substituteFor_mem hh) _
      next => exact .refl s
    next => exact .refl s
  next => exact .refl s
  next => exact .refl s

theorem waitExpire_keeps (t : Nat) (s : State) : Keeps s (waitExpire t s) := by
  unfold waitExpire
  split
  · split
    · exact (removeRequest_keeps t s).trans (postTo_keeps ..)
    · exact .refl s
  · exact .refl s

theorem holdExpire_keeps (t : Nat) (s : State) : Keeps s (holdExpire t s) := by
  unfold holdExpire
  split
  next h hh =>
    split
    · exact (lapseHold_keeps (findHold_mem hh) (by simp) 0).trans (allocationPass_keeps _)
    · exact .refl s
  next => exact .refl s

end Sys2Proof.Machine
end

section
/-! The bay table, the air quality unit and the field loop keep the laws (chapters 1, 5 and 8). -/

namespace Sys2Proof.Machine
variable {s t u : State}

/-! ### Bays (chapter 1) -/

theorem postBayEvents_keeps (n : Nat) (b : Bay) (old new : Sensed) (cause : Nat) (s : State) :
    Keeps s (postBayEvents n b old new cause s) := by
  cases new with
  | present =>
    simp only [postBayEvents]
    split
    · exact (post_keeps ..).trans (post_keeps ..)
    · exact post_keeps ..
  | vacant =>
    simp only [postBayEvents]
    split
    · exact post_keeps ..
    · exact .refl s
  | unknown => exact post_keeps ..

theorem censusOfChange_keeps (level : Nat) (old new : Sensed) (s : State) : Keeps s (censusOfChange level old new s) := by
  have hmoved : Keeps s (if old ≠ .unknown ∧ new ≠ .unknown then movement level s else s) := by
    split
    · exact movement_keeps ..
    · exact .refl s
  unfold censusOfChange
  dsimp only
  split
  · exact hmoved.trans (afterPresentChange_keeps ..)
  · exact hmoved

theorem allocationOfChange_keeps (n : Nat) (b : Bay) (old new : Sensed) (s : State) :
    Keeps s (allocationOfChange n b old new s) := by
  cases new with
  | present => exact takeArrival_keeps ..
  | vacant =>
    simp only [allocationOfChange]
    split
    · exact allocationPass_keeps s
    · exact .refl s
  | unknown => exact .refl s

theorem senseChange_keeps (n : Nat) (new : Sensed) (cause : Nat) (s : State) : Keeps s (senseChange n new cause s) := by
  unfold senseChange
  split
  · exact .refl s
  · dsimp only
    refine Keeps.trans ?_ (settle_keeps ..)
    refine Keeps.trans ?_ (allocationOfChange_keeps ..)
    refine Keeps.trans ?_ (censusOfChange_keeps ..)
    refine Keeps.trans ?_ (triggerRow_keeps ..)
    refine Keeps.trans ?_ (levelCheck_keeps ..)
    refine Keeps.trans ?_ (postBayEvents_keeps ..)
    exact modBay_keeps fun _ _ => rfl

theorem senseChangeIf_keeps (n : Nat) (old new : Sensed) (cause : Nat) (s : State) :
    Keeps s (senseChangeIf n old new cause s) := by
  unfold senseChangeIf
  split
  · exact .refl s
  · exact senseChange_keeps ..

theorem learningSample_keeps (n : Nat) (b : Bay) (ref c : Nat) (s : State) : Keeps s (learningSample n b ref c s) := by
  unfold learningSample
  split
  · exact modBay_keeps fun _ _ => rfl
  · refine Keeps.trans ?_ (senseChangeIf_keeps ..)
    exact modBay_keeps fun _ _ => rfl

theorem Table.mapRecords_mapRecords {α β γ : Type} (f : Nat → α → β) (g : Nat → β → γ) (t : Table α) :
    (t.mapRecords f).mapRecords g = t.mapRecords fun n x => g n (f n x) := by
  simp [Table.mapRecords]

/-- Changes of several bays that leave their admin states. -/
theorem mapBays_keeps {f : Nat → Bay → Bay} (hf : ∀ n b, (f n b).admin = b.admin) :
    Keeps s { s with bays := s.bays.mapRecords f } :=
  Calm.keeps { Calm.refl s with
    admins := by simp only [State.admins, Table.mapRecords_mapRecords, hf] }

theorem modBaysOf_keeps {node : Nat} {f : Bay → Bay} (hf : ∀ b, (f b).admin = b.admin) (s : State) :
    Keeps s (modBaysOf node f s) := by
  refine mapBays_keeps fun _ b => ?_
  split
  · exact hf b
  · rfl

theorem makePending_keeps (node : Nat) (p : PendingBand) (s : State) : Keeps s (makePending node p s) :=
  addresses_keeps (b := s.bands) id id (Table.rising_put _ node p)

theorem requestBandChange_keeps (node : Nat) (s : State) : Keeps s (requestBandChange node s) := by
  unfold requestBandChange
  refine Keeps.trans ?_ (modBaysOf_keeps (fun _ => by rfl) _)
  split
  · exact post_keeps ..
  · split
    · exact makePending_keeps ..
    · exact post_keeps ..

theorem acknowledgeBand_keeps (node : Nat) (p : PendingBand) (s : State) : Keeps s (acknowledgeBand node p s) := by
  have hband (r : BandRecord) : Keeps s { s with bands := s.bands.putD node r .fresh } :=
    addresses_keeps (l := s.loop) (Table.rising_putD node r _) id id
  have hlearn (v : State) : Keeps v (modBaysOf node Bay.enterLearning v) := modBaysOf_keeps (f := Bay.enterLearning) (fun _ => rfl) v
  unfold acknowledgeBand
  dsimp only
  split
  · exact ((hband _).trans (hlearn _)).trans (post_keeps ..)
  · exact (hband _).trans (hlearn _)

theorem invalidSample_keeps (n : Nat) (b : Bay) (s : State) : Keeps s (invalidSample n b s) := by
  unfold invalidSample
  dsimp only
  split
  · refine Keeps.trans ?_ (senseChange_keeps ..)
    exact modBay_keeps fun _ _ => rfl
  · exact modBay_keeps fun _ _ => rfl

theorem classifiedSample_keeps {n : Nat} {b : Bay} (hfind : s.bays.find n = some b) (c : Nat) :
    Keeps s (classifiedSample n b c s) := by
  have hsampled : Keeps s (s.modBay n fun _ => b.sampled s.jitter c) :=
    modBay_keeps fun x hx => by cases hfind.symm.trans hx; rfl
  unfold classifiedSample
  dsimp only
  split
  · exact hsampled.trans (senseChange_keeps ..)
  · split
    · exact hsampled.trans (requestBandChange_keeps ..)
    · exact hsampled

theorem baySample_keeps (n : Nat) (entry : Option Nat) (s : State) : Keeps s (baySample n entry s) := by
  unfold baySample
  split
  · exact .refl s
  next hfind =>
    split
    · split
      · exact learningSample_keeps ..
      · exact classifiedSample_keeps hfind _
    · exact invalidSample_keeps ..

theorem takeSamples_keeps (node ch : Nat) (l : List (Option Nat)) (s : State) : Keeps s (takeSamples node ch l s) := by
  induction l generalizing ch s with
  | nil => exact .refl s
  | cons e rest ih =>
    refine Keeps.trans ?_ (ih (ch + 1) _)
    split
    · exact baySample_keeps ..
    · exact .refl s

theorem bayNodeFault_keeps (n : Nat) (s : State) : Keeps s (bayNodeFault n s) := by
  unfold bayNodeFault
  split
  · exact .refl s
  · refine Keeps.trans ?_ (senseChangeIf_keeps ..)
    exact modBay_keeps fun _ _ => rfl

theorem nodeFaultBays_keeps (node : Nat) (s : State) : Keeps s (nodeFaultBays node s) :=
  forEach_keepsLaws _ bayNodeFault_keeps _ s

/-! ### Air quality (chapter 5) -/

theorem changeStage_keeps (zone new : Nat) (s : State) : Keeps s (changeStage zone new s) := by
  unfold changeStage
  split
  · exact .refl s
  · have hstage := fun (z : Zone) => (modZone_keeps zone (fun z => { z with stage := new }) s).trans
      ((post_keeps .stageChanged zone new z.stage _).trans
        (forEach_keepsLaws (levelCheck s) (levelCheck_keeps s) (zoneLevels s zone) _))
    dsimp only
    split
    · exact (hstage _).trans (allocationPass_keeps _)
    · exact hstage _

theorem evaluateZone_keeps (zone : Nat) (s : State) : Keeps s (evaluateZone zone s) := by
  unfold evaluateZone
  split
  · exact .refl s
  · split
    · exact .refl s
    · split
      · exact (modZone_keeps ..).trans (changeStage_keeps ..)
      · split
        · split
          · exact modZone_keeps ..
          · split
            · exact .refl s
            · exact modZone_keeps ..
        · exact .refl s

theorem dwellExpire_keeps (zone : Nat) (s : State) : Keeps s (dwellExpire zone s) := by
  unfold dwellExpire
  split
  · exact .refl s
  · split
    · exact ((modZone_keeps ..).trans (changeStage_keeps ..)).trans (evaluateZone_keeps ..)
    · exact .refl s

theorem refreshZone_keeps (zone : Nat) (s : State) : Keeps s (refreshZone zone s) := by
  unfold refreshZone
  split
  · exact .refl s
  · dsimp only
    split
    · split
      · exact .refl s
      · exact (modZone_keeps ..).trans (post_keeps ..)
    · refine Keeps.trans ?_ (modZone_keeps ..)
      split
      · exact (modZone_keeps ..).trans (post_keeps ..)
      · exact .refl s

theorem accumulate_keeps (zone : Nat) (s : State) : Keeps s (accumulate zone s) := modZone_keeps ..

theorem postHeadState_keeps (head : Nat) (old new : HeadHealth) (s : State) : Keeps s (postHeadState head old new s) := by
  unfold postHeadState
  split
  · exact .refl s
  · exact post_keeps ..

theorem gasReply_keeps (head : Nat) (r : RawReading) (s : State) : Keeps s (gasReply head r s) := by
  unfold gasReply
  split
  · exact .refl s
  · refine Keeps.trans ?_ (settle_keeps ..)
    refine Keeps.trans ?_ (evaluateZone_keeps ..)
    have hhead := fun (h : Head) => ((modHead_keeps head (Head.replied s.deckTime r) s).trans
      (postHeadState_keeps head h.health (healthOfFlags r.flags) _)).trans (refreshZone_keeps h.cfg.zone _)
    split
    · exact (hhead _).trans (accumulate_keeps ..)
    · exact hhead _

theorem headNodeChange_keeps (head : Nat) (node : NodeHealth) (s : State) : Keeps s (headNodeChange head node s) := by
  unfold headNodeChange
  split
  · exact .refl s
  · dsimp only
    split
    · exact .refl s
    · exact (modHead_keeps ..).trans ((postHeadState_keeps ..).trans ((refreshZone_keeps ..).trans
        ((evaluateZone_keeps ..).trans (settle_keeps ..))))

theorem overrideExpire_keeps (zone : Nat) (s : State) : Keeps s (overrideExpire zone s) := by
  unfold overrideExpire
  split
  · exact .refl s
  · split
    · exact .refl s
    · split
      · exact (modZone_keeps ..).trans (post_keeps ..)
      · exact .refl s

/-! ### The field loop (chapter 8) -/

theorem startTransaction_keeps (s : State) : Keeps s (startTransaction s) := by
  unfold startTransaction
  split
  · exact setLoop_keeps rfl rfl
  · exact .refl s

theorem postNodeState_keeps (address : Nat) (old new : HealthRecord) (outcome : FieldOutcome) (s : State) :
    Keeps s (postNodeState address old new outcome s) := by
  unfold postNodeState
  split
  · exact post_keeps ..
  · split
    · exact post_keeps ..
    · exact .refl s

theorem handHealth_keeps (address : Nat) (old new : NodeHealth) (before s : State) :
    Keeps s (handHealth address old new before s) := by
  unfold handHealth
  split
  · exact .refl s
  split
  · split
    · exact nodeFaultBays_keeps ..
    · exact .refl s
  split
  · split
    · exact .refl s
    · exact headNodeChange_keeps ..
  split
  · split
    · exact (retryOnDecrease_keeps ..).trans (settle_keeps ..)
    · exact .refl s
  · exact .refl s

theorem recordOutcome_keeps (address : Nat) (outcome : FieldOutcome) (s : State) :
    Keeps s (recordOutcome address outcome s) := by
  refine Keeps.trans ?_ (handHealth_keeps ..)
  refine Keeps.trans ?_ (postNodeState_keeps ..)
  exact addresses_keeps (b := s.bands) id (fun h => Table.rising_putD _ _ _ h) id

theorem bandReply_keeps (node sent : Nat) (bytes : List Byte) (s : State) : Keeps s (bandReply node sent bytes s) := by
  unfold bandReply
  split
  · exact .refl s
  · split
    · refine Keeps.trans ?_ (acknowledgeBand_keeps ..)
      exact addresses_keeps (b := s.bands) id id (Table.rising_erase _ node)
    · exact .refl s

theorem deliverReply_keeps (t : Transaction) (bytes : List Byte) (s : State) : Keeps s (deliverReply t bytes s) := by
  unfold deliverReply
  split
  · exact takeSamples_keeps ..
  · exact bandReply_keeps ..
  · exact gasReply_keeps ..
  · exact .refl s
  · exact .refl s

theorem endTransaction_keeps (t : Transaction) (chars : List FieldChar) (s : State) :
    Keeps s (endTransaction t chars s) := by
  refine Keeps.trans ?_ (startTransaction_keeps _)
  refine Keeps.trans ?_ (setLoop_keeps rfl rfl)
  have hended : Keeps s (recordOutcome t.address (judge t chars) (s.setLoop { s.loop with current := none })) := by
    refine Keeps.trans ?_ (recordOutcome_keeps ..)
    exact setLoop_keeps rfl rfl
  split
  · exact hended.trans (deliverReply_keeps ..)
  · exact hended

theorem endDrain_keeps (s : State) : Keeps s (endDrain s) := by
  refine Keeps.trans ?_ (startTransaction_keeps _)
  exact setLoop_keeps rfl rfl

theorem finishTransaction_keeps (chars : List FieldChar) (s : State) : Keeps s (finishTransaction chars s) := by
  unfold finishTransaction
  split
  · exact .refl s
  · split
    · exact endTransaction_keeps ..
    · exact endDrain_keeps s

end Sys2Proof.Machine
end

section
/-! Restarts and the taking of a configuration keep the laws (chapter 10). -/

namespace Sys2Proof.Machine
variable {s t u : State}

/-! ### The mode controller -/

/-- The configurations the mode controller holds keep their numbers rising. -/
def ControlRising (c : Control) : Prop :=
  (∀ x, c.working = some x → x.rising = true) ∧ (∀ p, c.store = some p → p.config.rising = true) ∧
    ∀ w, c.write = some w → w.contents.config.rising = true

theorem controlRising_of_tablesRising (h : TablesRising s = true) : ControlRising s.control := (tablesRising_iff.1 h).2

/-- A change of the mode controller that leaves the mode. -/
theorem setControl_keeps {c : Control} (hmode : c.mode = s.control.mode)
    (hc : TablesRising s = true → ControlRising c) : Keeps s (s.setControl c) := by
  have hrun : (s.setControl c).inRun = s.inRun := by simp [State.inRun, State.setControl, hmode]
  exact {
    pending := rfl
    port := fun _ => .refl _
    queue := id
    holds := id
    tables := fun h => tablesRising_iff.2 ⟨(tablesRising_iff.1 h).1, hc h⟩
    addresses := id
    atRest := id
    classes := id
    steps := by rw [stepsHeld_iff, stepsHeld_iff, hrun]; exact id
    matched := fun _ _ => by rw [holdsMatch_iff, holdsMatch_iff, hrun]; exact id }

theorem inForce_rising (h : TablesRising s = true) : s.inForce.rising = true := by
  simp only [TablesRising, Bool.and_eq_true] at h
  exact h.1.1.1

theorem workingCopy_rising (h : TablesRising s = true) : s.workingCopy.rising = true := by
  unfold State.workingCopy
  cases hw : s.control.working with
  | none => rfl
  | some c => exact (controlRising_of_tablesRising h).1 c hw

theorem Configuration.rising_iff {c : Configuration} :
    c.rising = true ↔ c.bays.rising = true ∧ c.pairs.rising = true ∧ c.levels.rising = true ∧ c.rows.rising = true ∧
      c.heads.rising = true ∧ c.zones.rising = true ∧ c.fans.rising = true := by
  simp [Configuration.rising, and_assoc]

theorem setWorking_keeps {c : Configuration} (hc : TablesRising s = true → c.rising = true) : Keeps s (s.setWorking c) :=
  setControl_keeps rfl fun h => ⟨fun _ hx => by cases hx; exact hc h, (controlRising_of_tablesRising h).2⟩

/-! ### COMMIT -/

/-- A fan steady above speed 0 or STOPPED at 0 is at rest where it must be. -/
theorem Fan.atRest_of_speed {f : Fan} (h : f.state = if 0 < f.commanded then .steady else .stopped) : f.AtRest := by
  rcases Nat.eq_zero_or_pos f.commanded with hzero | hpos
  · exact fun _ => hzero
  · rw [if_pos hpos] at h
    simp [Fan.AtRest, h]

theorem Fan.atRest_leaveHeld {f : Fan} (h : f.AtRest) : f.leaveHeld.AtRest := by
  unfold Fan.leaveHeld
  split
  next => exact Fan.atRest_of_speed rfl
  next => exact h

theorem Fan.classFits_leaveHeld {f : Fan} (h : f.ClassFits) : f.leaveHeld.ClassFits := by
  unfold Fan.leaveHeld
  split <;> exact h

theorem Fan.stepFits_leaveHeld {run : Bool} {f : Fan} (h : f.StepFits run) : f.leaveHeld.StepFits true := by
  refine ⟨fun hheld => ?_, .inl rfl⟩
  unfold Fan.leaveHeld at hheld ⊢
  split
  next hst =>
    rw [if_pos hst] at hheld
    have := h.1 hheld
    simp [hst] at this
  next hst =>
    rw [if_neg hst] at hheld
    exact h.1 hheld

theorem Fan.atRest_fresh (c : FanCfg) (d : Direction) : (Fan.fresh c d).AtRest := fun _ => rfl

theorem Fan.classFits_fresh (c : FanCfg) (d : Direction) : (Fan.fresh c d).ClassFits := .inr ⟨rfl, rfl⟩

theorem Fan.stepFits_fresh (c : FanCfg) (d : Direction) : (Fan.fresh c d).StepFits true := ⟨by simp [Fan.fresh], .inl rfl⟩

/-- A law of fans that a kept fan keeps, whatever record it takes, and that a new fan meets, holds of every fan at COMMIT. -/
theorem commitFan_meets {P Q : Fan → Prop} (hP : ∀ p ∈ s.fans, P p.2) (hkept : ∀ (f : Fan) c, P f → Q ({ f with cfg := c } : Fan).leaveHeld)
    (hnew : ∀ c d, Q (Fan.fresh c d)) (n : Nat) (c : FanCfg) : Q (commitFan s n c) := by
  unfold commitFan
  split
  next f hfind => exact hkept f c (hP (n, f) (Table.find_mem _ _ _ hfind))
  next => exact hnew c _

theorem commitBay_admin (s : State) (n : Nat) (c : BayCfg) :
    (commitBay s n c).admin = .opened ∨ ∃ b, s.bays.find n = some b ∧ (commitBay s n c).admin = b.admin := by
  unfold commitBay
  dsimp only
  split
  next b hfind =>
    split
    · exact .inr ⟨b, hfind, rfl⟩
    · exact .inl rfl
  next => exact .inl rfl

theorem mergeWorking_keeps {c : Configuration} (hrun : s.inRun = false) (hc : TablesRising s = true → c.rising = true) :
    Keeps s (mergeWorking c s) where
  pending := rfl
  port _ := .refl _
  queue := id
  holds := id
  tables h := by
    rw [tablesRising_iff]
    simpa [mergeWorking, (controlRising_of_tablesRising h).2] using
      And.intro (Configuration.rising_iff.1 (hc h)) (controlRising_of_tablesRising h).2
  addresses := id
  atRest h := by
    rw [fansAtRest_iff] at h ⊢
    intro q hq
    obtain ⟨p, _, rfl⟩ := List.mem_map.1 hq
    exact commitFan_meets (P := Fan.AtRest) h (fun f c hf => Fan.atRest_leaveHeld hf) Fan.atRest_fresh p.1 p.2
  classes h q hq := by
    obtain ⟨p, _, rfl⟩ := List.mem_map.1 hq
    exact commitFan_meets (P := Fan.ClassFits) h (fun f c hf => Fan.classFits_leaveHeld hf) Fan.classFits_fresh p.1 p.2
  steps h := by
    rw [stepsHeld_iff] at h ⊢
    refine ⟨fun q hq => ?_, .inl rfl⟩
    obtain ⟨p, _, rfl⟩ := List.mem_map.1 hq
    exact commitFan_meets (P := Fan.StepFits s.inRun) (Q := Fan.StepFits true) h.1
      (fun f c hf => Fan.stepFits_leaveHeld hf) Fan.stepFits_fresh p.1 p.2
  matched _ _ h := by
    have m := holdsMatch_iff.1 h
    obtain ⟨hqueue, hholds⟩ : s.guidance.queue = [] ∧ s.guidance.holds = [] := by simpa [hrun] using m.config
    rw [holdsMatch_iff]
    refine ⟨m.nodup, ?_, fun n t hmem => ?_, .inl rfl⟩
    · intro x hx
      exact absurd (show x ∈ s.guidance.holds from hx) (by simp [hholds])
    · obtain ⟨⟨k, b⟩, hb, heq⟩ := List.mem_map.1 hmem
      obtain ⟨p, _, hp⟩ := List.mem_map.1 hb
      obtain ⟨rfl, rfl⟩ := Prod.mk.inj hp
      obtain ⟨rfl, hadmin⟩ := Prod.mk.inj heq
      rcases commitBay_admin s p.1 p.2 with hopen | ⟨b, hfind, hkept⟩
      · exact absurd (hopen.symm.trans hadmin) (by simp)
      · have hheld : (p.1, Admin.held t) ∈ s.admins :=
          List.mem_map.2 ⟨(p.1, b), Table.find_mem _ _ _ hfind, Prod.ext rfl (hkept.symm.trans hadmin)⟩
        exact m.hold _ _ hheld

theorem commitTotals_keeps (before s : State) : Keeps s (commitTotals before s) :=
  forEach_keepsLaws _ (levelCheck_keeps before) _ s

theorem commitCensus_keeps (s : State) : Keeps s (commitCensus s) := by
  refine Keeps.trans ?_ (forEach_keepsLaws _ censusCheck_keeps _ _)
  refine Keeps.trans ?_ (forEach_keepsLaws _ setPending_keeps _ _)
  exact forEach_keepsLaws _ (fun n v => (updateDrift_keeps n v).trans (driftExpire_keeps n _)) _ s

theorem commitAir_keeps (s : State) : Keeps s (commitAir s) :=
  forEach_keepsLaws _ (fun n v => (refreshZone_keeps n v).trans (evaluateZone_keeps n _)) _ s

theorem commitNewFan_keeps (ch : Nat) (s : State) : Keeps s (commitNewFan ch s) := by
  have hturned : Keeps s (s.modFan ch fun f => { f with direction := s.dueDirection f }) :=
    modFan_keeps fun _ _ => .of_state_kept rfl rfl rfl rfl id
  unfold commitNewFan
  dsimp only
  split
  · exact hturned.trans (fanToFault_keeps ..)
  · exact hturned

theorem commitFans_keeps (before s : State) : Keeps s (commitFans before s) :=
  ((forEach_keepsLaws _ commitNewFan_keeps _ s).trans (handDemands_keeps _)).trans
    (forEach_keepsLaws _ beginReversal_keeps _ _)

theorem commitBands_keeps (s : State) : Keeps s (commitBands s) :=
  forEach_keepsLaws _ (fun a v => makePending_keeps a _ v) _ s

theorem commitLoop_keeps (list : List Nat) (s : State) : Keeps s (commitLoop list s) := by
  refine Keeps.trans ?_ (startTransaction_keeps _)
  exact setLoop_keeps rfl rfl

/-- What COMMIT does up to its computation changes nothing of the mode controller after the mode is set. -/
theorem commitFans_inRun (c : Configuration) (s : State) :
    (commitFans s (commitAir (commitCensus (commitTotals s (mergeWorking c s))))).inRun = true := by
  have hmerged : (mergeWorking c s).inRun = true := rfl
  refine (inRun_of_control ((commitFans_within _ _).control_eq (by decide))).trans ?_
  refine (inRun_of_control ((commitAir_within _).control_eq (by decide))).trans ?_
  refine (inRun_of_control ((commitCensus_within _).control_eq (by decide))).trans ?_
  exact (inRun_of_control ((commitTotals_within _ _).control_eq (by decide))).trans hmerged

theorem takeConfiguration_keeps {c : Configuration} (hrun : s.inRun = false) (hc : TablesRising s = true → c.rising = true) :
    Keeps s (takeConfiguration c s) := by
  refine Keeps.trans ?_ (post_keeps ..)
  refine Keeps.trans ?_ (commitLoop_keeps ..)
  refine Keeps.trans ?_ (commitBands_keeps _)
  refine Keeps.trans ?_ (compute_keeps true (commitFans_inRun c s))
  refine Keeps.trans ?_ (commitFans_keeps s _)
  refine Keeps.trans ?_ (commitAir_keeps _)
  refine Keeps.trans ?_ (commitCensus_keeps _)
  exact (mergeWorking_keeps hrun hc).trans (commitTotals_keeps ..)

/-! ### ENTER_CONFIG -/

/-- The queue emptied: each request out, its station told (R73). -/
def lapseRequest (r : Request) (s : State) : State := postTo r.station .requestLapsed r.ticket 1 r.lane (removeRequest r.ticket s)

theorem emptyGuidance_eq (s : State) :
    emptyGuidance s =
      forEach (forEach s.guidance.queue lapseRequest s).guidance.holds (lapseHold · .opened 3)
        (forEach s.guidance.queue lapseRequest s) := rfl

theorem lapseRequest_keeps (r : Request) (s : State) : Keeps s (lapseRequest r s) :=
  (removeRequest_keeps ..).trans (postTo_keeps ..)

theorem lapseRequest_guidance (r : Request) (s : State) :
    (lapseRequest r s).guidance = { s.guidance with queue := dropRequest s.guidance.queue r.ticket } :=
  (postTo_within ..).guidance_eq (by decide)

theorem setAdmin_guidance (bay : Nat) (a : Admin) (s : State) : (setAdmin bay a s).guidance = s.guidance :=
  (setAdmin_within ..).guidance_eq (by decide)

theorem lapseHold_guidance (h : Hold) (after : Admin) (reason : Nat) (s : State) :
    (lapseHold h after reason s).guidance =
      { s.guidance with holds := s.guidance.holds.filter fun x => decide (x.ticket ≠ h.ticket) } := by
  unfold lapseHold endHold
  rw [(postTo_within ..).guidance_eq (by decide), setAdmin_guidance]
  rfl

/-- What stays when one element and then the rest of a list are taken out by number. -/
theorem filter_not_mem_cons {α β : Type} (f : α → Nat) (g : β → Nat) (x : β) (rest : List β) (l : List α) :
    (l.filter fun y => decide (f y ≠ g x)).filter (fun y => decide (f y ∉ rest.map g)) =
      l.filter fun y => decide (f y ∉ (x :: rest).map g) := by
  rw [List.filter_filter]
  refine List.filter_congr fun y _ => ?_
  simp only [List.map_cons, List.mem_cons, not_or, Bool.decide_and, Bool.and_comm]

/-- Each element of a list taken out by its ticket, the list is empty. -/
theorem forEach_lapseRequest_guidance (l : List Request) (s : State) :
    (forEach l lapseRequest s).guidance =
      { s.guidance with queue := s.guidance.queue.filter fun x => decide (x.ticket ∉ l.map (·.ticket)) } := by
  induction l generalizing s with
  | nil => simp
  | cons r rest ih =>
    rw [forEach_cons, ih, lapseRequest_guidance, ← filter_not_mem_cons]
    rfl

theorem forEach_lapseHold_guidance (l : List Hold) (after : Admin) (reason : Nat) (s : State) :
    (forEach l (lapseHold · after reason) s).guidance =
      { s.guidance with holds := s.guidance.holds.filter fun x => decide (x.ticket ∉ l.map (·.ticket)) } := by
  induction l generalizing s with
  | nil => simp
  | cons h rest ih => rw [forEach_cons, ih, lapseHold_guidance, ← filter_not_mem_cons]

theorem filter_not_mem_own {α : Type} (f : α → Nat) (l : List α) : l.filter (fun x => decide (f x ∉ l.map f)) = [] := by
  rw [List.filter_eq_nil_iff]
  exact fun x hx => by simpa using ⟨x, hx, rfl⟩

theorem emptyGuidance_guidance (s : State) : (emptyGuidance s).guidance = { s.guidance with queue := [], holds := [] } := by
  rw [emptyGuidance_eq, forEach_lapseHold_guidance, forEach_lapseRequest_guidance]
  simp only [filter_not_mem_own]

end Sys2Proof.Machine
end

section
/-! ENTER_CONFIG and the restarts keep the laws (R187, R193, R194). -/

namespace Sys2Proof.Machine
variable {s t u : State}

/-! ### ENTER_CONFIG -/

theorem admins_of_bays (h : t.bays = s.bays) : t.admins = s.admins := by simp [State.admins, h]

/-- Setting an admin state sets that admin state alone. -/
theorem setAdmin_admins (bay : Nat) (a : Admin) (s : State) : (setAdmin bay a s).admins = s.admins.modify bay fun _ => a := by
  cases hfind : s.bays.find bay with
  | none =>
    have hadmin : s.admins.find bay = none := by simp [State.admins, hfind]
    rw [setAdmin_of_not_find hfind, Table.modify_of_not_find _ _ _ hadmin]
  | some b =>
    rw [setAdmin_of_find hfind, admins_of_bays ((levelCheck_within _ _ _).bays_eq (by decide)), admins_modBay]

theorem lapseHold_admins (h : Hold) (after : Admin) (reason : Nat) (s : State) :
    (lapseHold h after reason s).admins = s.admins.modify h.bay fun _ => after := by
  unfold lapseHold endHold
  rw [admins_of_bays ((postTo_within ..).bays_eq (by decide)), setAdmin_admins]
  rfl

theorem lapseHold_lasting (h : Hold) (after : Admin) (reason : Nat) (s : State) :
    Lasting s (lapseHold h after reason s) := by
  have hdropped : Lasting s
      (s.setGuidance { s.guidance with holds := s.guidance.holds.filter fun x => decide (x.ticket ≠ h.ticket) }) :=
    allocation_lasting rfl id fun hl => (List.length_filter_le _ _).trans hl
  refine hdropped.trans (Lasting.trans ?_ (postTo_keeps ..).toLasting)
  unfold setAdmin
  split
  · exact .refl _
  · dsimp only
    exact (allocation_lasting (Table.numbers_modify _ h.bay _) id id).trans (levelCheck_keeps ..).toLasting

/-- With every hold of a list lapsed, a bay that is HELD was so before and has no hold in the list. -/
theorem forEach_lapseHold_held {reason : Nat} (l : List Hold) (s : State) {n t : Nat}
    (h : (forEach l (lapseHold · .opened reason) s).admins.find n = some (.held t)) :
    s.admins.find n = some (.held t) ∧ ∀ x ∈ l, x.bay ≠ n := by
  induction l generalizing s with
  | nil => exact ⟨h, by simp⟩
  | cons x rest ih =>
    rw [forEach_cons] at h
    obtain ⟨hheld, hrest⟩ := ih _ h
    rw [lapseHold_admins, Table.find_modify] at hheld
    split at hheld
    next =>
      obtain ⟨y, _, hy⟩ := Option.map_eq_some_iff.1 hheld
      cases hy
    next hne => exact ⟨hheld, List.forall_mem_cons.2 ⟨fun heq => hne heq.symm, hrest⟩⟩

theorem emptyGuidance_lasting (s : State) : Lasting s (emptyGuidance s) := by
  rw [emptyGuidance_eq]
  exact (forEach_keepsLaws _ lapseRequest_keeps _ s).toLasting.trans
    (forEach_rel Lasting Lasting.refl (fun _ _ _ => Lasting.trans) _ (fun h s => lapseHold_lasting h .opened 3 s) _ _)

theorem lapseRequests_admins (l : List Request) (s : State) : (forEach l lapseRequest s).admins = s.admins := by
  induction l generalizing s with
  | nil => rfl
  | cons r rest ih => rw [forEach_cons, ih, lapseRequest, admins_of_bays ((postTo_within ..).bays_eq (by decide))]; rfl

/-- With the hold list emptied no bay is HELD (R73). -/
theorem emptyGuidance_not_held (ht : TablesRising s = true)
    (hm : ∀ n t, (n, Admin.held t) ∈ s.admins → ∃ h ∈ s.guidance.holds, h.ticket = t ∧ h.bay = n) (n t : Nat) :
    (n, Admin.held t) ∉ (emptyGuidance s).admins := by
  intro hmem
  have hfind := (Table.find_eq_some_iff _ (admins_rising ((emptyGuidance_lasting s).tables ht)) n _).2 hmem
  rw [emptyGuidance_eq] at hfind
  obtain ⟨hheld, hnone⟩ := forEach_lapseHold_held _ _ hfind
  rw [lapseRequests_admins] at hheld
  obtain ⟨h, hh, _, hbay⟩ := hm n t (Table.find_mem _ _ _ hheld)
  rw [forEach_lapseRequest_guidance] at hnone
  exact hnone h hh hbay

theorem Fan.lawful_toHeld (run run' : Bool) (f : Fan) :
    (f.AtRest → f.toHeld.AtRest) ∧ (f.ClassFits → f.toHeld.ClassFits) ∧ (f.StepFits run → f.toHeld.StepFits run') := by
  unfold Fan.toHeld
  split
  next => exact ⟨fun _ => by simp [Fan.AtRest], id, fun _ => ⟨by simp, .inr (.inl rfl)⟩⟩
  next hout =>
    refine ⟨id, id, fun h => ⟨h.1, .inr (.inr ?_)⟩⟩
    rcases hst : f.state <;> simp_all [Fan.isLoad]

/-- The state ENTER_CONFIG begins with: CONFIG mode, the working copy a copy of what is in force (R187). -/
def configEntered (s : State) : State := s.setControl { s.control with mode := .config, working := some s.inForce }

theorem enterConfig_eq (s : State) :
    enterConfig s = post .modeChanged 0 1 0 (holdFans (freezeRows (stopWalk (emptyGuidance (configEntered s))))) := rfl

theorem configEntered_tables (h : TablesRising s = true) : TablesRising (configEntered s) = true := by
  obtain ⟨htables, hcontrol⟩ := tablesRising_iff.1 h
  exact tablesRising_iff.2 ⟨htables, fun _ hx => by cases hx; exact inForce_rising h, hcontrol.2⟩

/-- The law of tickets and holds survives ENTER_CONFIG: it leaves none (R73). -/
theorem enterConfig_matched (ht : TablesRising s = true) (hm : HoldsMatch s = true) :
    HoldsMatch (emptyGuidance (configEntered s)) = true := by
  have hguidance := emptyGuidance_guidance (configEntered s)
  rw [holdsMatch_iff, hguidance]
  refine ⟨List.nodup_nil, by simp, fun n t hmem => ?_, .inr ⟨rfl, rfl⟩⟩
  exact absurd hmem (emptyGuidance_not_held (configEntered_tables ht) (holdsMatch_iff.1 hm).hold n t)

theorem emptyGuidance_fans (s : State) : (emptyGuidance s).fans = s.fans := (emptyGuidance_within s).fans_eq (by decide)

/-- In CONFIG mode with every row FROZEN and every fan HELD, FAULTED or ISOLATED (R91, R142). -/
theorem stepsHeld_frozen (run : Bool) (h : ∀ p ∈ s.fans, p.2.StepFits run) : StepsHeld (holdFans (freezeRows s)) = true := by
  rw [stepsHeld_iff, rowSteps_frozen_iff]
  refine ⟨fun q hq => ?_, .inr fun q hq => ?_⟩
  · obtain ⟨p, hp, rfl⟩ := List.mem_map.1 hq
    exact (Fan.lawful_toHeld run _ p.2).2.2 (h p hp)
  · obtain ⟨p, _, rfl⟩ := List.mem_map.1 hq
    rfl

/-- ENTER_CONFIG up to its event. -/
theorem holdFans_keeps (hs : s = emptyGuidance (configEntered u)) : Keeps u (holdFans (freezeRows (stopWalk s))) := by
  have hlasting : Lasting (configEntered u) s := hs ▸ emptyGuidance_lasting _
  have hfans : s.fans = u.fans := hs ▸ emptyGuidance_fans _
  exact {
    pending := hlasting.pending
    port := hlasting.port
    queue := hlasting.queue
    holds := hlasting.holds
    tables := fun h => by
      obtain ⟨hrising, hcontrol⟩ := tablesRising_iff.1 (hlasting.tables (configEntered_tables h))
      rw [tablesRising_iff]
      exact ⟨by simpa [holdFans, freezeRows, stopWalk] using hrising, hcontrol⟩
    addresses := hlasting.addresses
    atRest := fun h => by
      rw [fansAtRest_iff] at h ⊢
      intro q hq
      obtain ⟨p, hp, rfl⟩ := List.mem_map.1 hq
      exact (Fan.lawful_toHeld true true p.2).1 (h p (hfans ▸ hp))
    classes := fun h q hq => by
      obtain ⟨p, hp, rfl⟩ := List.mem_map.1 hq
      exact (Fan.lawful_toHeld true true p.2).2.1 (h p (hfans ▸ hp))
    steps := fun h => stepsHeld_frozen u.inRun fun p hp => (stepsHeld_iff.1 h).1 p (hfans ▸ hp)
    matched := fun _ ht hm => by
      have hmatched : HoldsMatch s = true := by rw [hs]; exact enterConfig_matched ht hm
      rw [holdsMatch_iff] at hmatched ⊢
      exact hmatched }

theorem enterConfig_keeps (s : State) : Keeps s (enterConfig s) := by
  rw [enterConfig_eq]
  exact (holdFans_keeps rfl).trans (post_keeps ..)

/-! ### Restarts -/

theorem Port.emptied_quiet (p : Port) : p.Quiet p.emptied := ⟨Nat.zero_le _, Nat.zero_le _, fun _ => Nat.zero_le _⟩

theorem setPorts_keeps {p : Ports} (h : ∀ st, (s.port st).Quiet (({ s with ports := p } : State).port st)) :
    Keeps s { s with ports := p } := Calm.keeps { Calm.refl s with port := h }

theorem cutShort_keeps (s : State) : Keeps s (cutShort s) := setLoop_keeps rfl rfl

theorem softRestart_keeps (s : State) : Keeps s (softRestart s) := by
  have hcause : Keeps s (s.setControl { s.control with cause := .softCommand }) :=
    setControl_keeps rfl controlRising_of_tablesRising
  have hports : Keeps (s.setControl { s.control with cause := .softCommand })
      { s.setControl { s.control with cause := .softCommand } with ports := emptyPorts s.ports } :=
    setPorts_keeps fun st => by cases st <;> exact Port.emptied_quiet _
  exact ((hcause.trans hports).trans (postRestarted_keeps ..)).trans (cutShort_keeps _)

theorem Table.rising_iff_pairwise {α : Type} (t : Table α) : t.rising = true ↔ t.numbers.Pairwise (· < ·) := by
  induction t with
  | nil => simp [Table.rising, Table.numbers]
  | cons p rest ih =>
    obtain ⟨i, x⟩ := p
    rw [Table.rising_cons, ih]
    simp only [Table.numbers, List.map_cons, List.pairwise_cons, List.forall_mem_map, Table.above]

/-- The bay nodes are given in rising order. -/
theorem bayNodes_rising {α : Type} (bays : Table BayCfg) (f : Nat → α) :
    Table.rising ((bayNodes bays).map fun a => (a, f a)) = true := by
  rw [Table.rising_iff_pairwise]
  have hnumbers : Table.numbers ((bayNodes bays).map fun a => (a, f a)) = bayNodes bays := by
    simp only [Table.numbers, List.map_map]
    exact List.map_id _
  rw [hnumbers]
  exact List.pairwise_lt_range.sublist List.filter_sublist

theorem startRunning_keeps (hrun : s.inRun = true) : Keeps s (startRunning s) := by
  unfold startRunning
  refine Keeps.trans ?_ (startTransaction_keeps _)
  refine Keeps.trans ?_ (compute_keeps true ?_)
  · exact (handDemands_keeps s).trans (forEach_keepsLaws _ fanToFault_keeps _ _)
  · exact (inRun_of_control (((handDemands_within s).trans
      (forEach_within _ fanToFault_within _ _)).control_eq (by decide))).trans hrun

/-- The records of a profile at their restart values, in place of what was there (R193). -/
theorem loadProfile_keeps {p : Profile} {valid : Bool} (cause : RestartCause)
    (hp : TablesRising s = true → p.config.rising = true) (hv : valid = true ∨ p.config.fans = [] ∧ p.config.rows = []) :
    Keeps s { loadProfile p valid cause s with ports := emptyPorts (loadProfile p valid cause s).ports } where
  pending := rfl
  port st := by cases st <;> exact ⟨Nat.zero_le _, Nat.zero_le _, fun _ => Nat.zero_le _⟩
  queue _ := Nat.zero_le _
  holds _ := Nat.zero_le _
  tables h := by
    rw [tablesRising_iff]
    refine ⟨by simpa [loadProfile] using Configuration.rising_iff.1 (hp h), ?_, ?_, ?_⟩
    · cases valid <;> simp [loadProfile]; rfl
    · cases valid <;> simp [loadProfile, hp h]
    · simp [loadProfile]
  addresses _ := addressTablesRising_iff.2 ⟨rfl, rfl, bayNodes_rising ..⟩
  atRest _ := by
    rw [fansAtRest_iff]
    intro q hq
    obtain ⟨p, _, rfl⟩ := List.mem_map.1 hq
    exact Fan.atRest_fresh p.2 p.2.dirA
  classes _ q hq := by
    obtain ⟨p, _, rfl⟩ := List.mem_map.1 hq
    exact Fan.classFits_fresh p.2 p.2.dirA
  steps _ := by
    rcases hv with rfl | ⟨hfans, hrows⟩
    · refine stepsHeld_iff.2 ⟨fun q hq => ?_, .inl rfl⟩
      obtain ⟨p, _, rfl⟩ := List.mem_map.1 hq
      exact Fan.stepFits_fresh p.2 p.2.dirA
    · rw [stepsHeld_iff, rowSteps_frozen_iff]
      simp [loadProfile, hfans, hrows, Table.mapRecords]
  matched _ _ _ := by
    refine holdsMatch_iff.2 ⟨List.nodup_nil, by simp [loadProfile], fun n t hmem => ?_, .inr ⟨rfl, rfl⟩⟩
    obtain ⟨q, hq, heq⟩ := List.mem_map.1 hmem
    obtain ⟨p, _, rfl⟩ := List.mem_map.1 hq
    cases (Prod.mk.inj heq).2

theorem fullRestart_keeps (cause : RestartCause) (s : State) : Keeps s (fullRestart cause s) := by
  have started (u : State) (h : Keeps s u) (a b : Nat) :
      Keeps s (if (postRestarted a b u).inRun then startRunning (postRestarted a b u) else postRestarted a b u) := by
    have htold := h.trans (postRestarted_keeps a b u)
    split
    next hrun => exact htold.trans (startRunning_keeps hrun)
    next => exact htold
  unfold fullRestart
  dsimp only
  split
  next p hp =>
    refine started _ (loadProfile_keeps cause (fun h => ?_) (.inl rfl)) _ _
    split at hp
    · cases hp
    · exact (controlRising_of_tablesRising h).2.1 p hp
  next => exact started _ (loadProfile_keeps cause (fun _ => rfl) (.inr ⟨rfl, rfl⟩)) _ _

end Sys2Proof.Machine
end

section
/-! Every command keeps the laws, answers what its port has room for, and where it refuses changes nothing (R176). -/

namespace Sys2Proof.Machine
variable {s t u : State}

/-! ### Effects -/

/-- A command's effect: the laws kept, no more answers than `n`, and nothing changed where an answer is a refusal. -/
structure Effect.Sound (n : Nat) (s : State) (k : Effect) : Prop where
  keeps : Keeps s k.1
  few : k.2.length ≤ n
  refused : ∀ a ∈ k.2, carriedOut a.1 = false → k.1 = s

section
variable {n : Nat} {k : Effect} {status : Status} {contents : List Byte}

theorem sound_unchanged (s : State) (status : Status) (contents : List Byte) : Effect.Sound 1 s (answer s status contents) :=
  ⟨.refl s, le_rfl, fun _ _ _ => rfl⟩

theorem sound_refuse (s : State) (status : Status) : Effect.Sound 1 s (refuse s status) := sound_unchanged s status []

theorem sound_carried (h : Keeps s t) (hstatus : carriedOut status = true) : Effect.Sound 1 s (answer t status contents) :=
  ⟨h, le_rfl, fun a ha hno => by
    rw [List.mem_singleton.1 ha] at hno
    exact absurd hstatus (by simp [hno])⟩

theorem sound_done (h : Keeps s t) : Effect.Sound 1 s (done t contents) := sound_carried h rfl

theorem sound_clamped (h : Keeps s t) (b : Bool) : Effect.Sound 1 s (answer t (clampedStatus b) contents) :=
  sound_carried h (by cases b <;> rfl)

theorem sound_silent (h : Keeps s t) : Effect.Sound 1 s (t, []) := ⟨h, Nat.zero_le _, fun _ ha => absurd ha List.not_mem_nil⟩

theorem Effect.Sound.mono {m : Nat} (h : k.Sound n s) (hle : n ≤ m) : k.Sound m s := ⟨h.keeps, h.few.trans hle, h.refused⟩

/-- A command whose checks refuse or pass to the rest of it. -/
theorem sound_checked {checks : List (Bool × Status)} (h : (∀ c ∈ checks, c.1 = false) → k.Sound 1 s) :
    Effect.Sound 1 s (checked s checks k) := by
  unfold checked
  split
  next c _ => exact sound_refuse s c.2
  next hnone => exact h fun c hc => by simpa using List.find?_eq_none.1 hnone c hc

end

/-! ### Reads and masks -/

theorem setPort_keeps {st : Station} {p : Port} (h : (s.port st).Quiet p) : Keeps s (s.setPort st p) := by
  refine Calm.keeps ?_
  constructor
  case port =>
    intro st'
    rw [State.port_setPort]
    split
    next heq => exact heq ▸ h
    next => exact .refl _
  all_goals cases st <;> rfl

theorem doReadStatus_sound (st : Station) (s : State) : (doReadStatus st s).Sound 1 s :=
  sound_done (setPort_keeps ⟨le_rfl, le_rfl, id⟩)

theorem doReadEvents_sound (st : Station) (count : Nat) (s : State) : (doReadEvents st count s).Sound 1 s :=
  sound_checked fun _ => sound_done (setPort_keeps ⟨le_rfl, le_rfl, fun h => (by simp; omega)⟩)

theorem doSetEventMask_sound (st : Station) (mask : Nat) (s : State) : (doSetEventMask st mask s).Sound 1 s :=
  sound_checked fun _ => sound_done (setPort_keeps ⟨le_rfl, le_rfl, id⟩)

theorem doReadRecord_sound (kind number part : Nat) (s : State) : (doReadRecord kind number part s).Sound 1 s := by
  refine sound_checked fun _ => ?_
  split
  · exact sound_done (.refl s)
  · exact sound_refuse s _

theorem doReadLoads_sound (page : Nat) (s : State) : (doReadLoads page s).Sound 2 s := by
  unfold doReadLoads
  dsimp only
  split
  · exact ⟨.refl s, le_rfl, fun _ _ _ => rfl⟩
  · exact (sound_done (.refl s)).mono (by decide)

/-! ### Modes and configuration -/

theorem doEnterConfig_sound (s : State) : (doEnterConfig s).Sound 1 s := sound_checked fun _ => sound_done (enterConfig_keeps s)

theorem doCommit_sound (s : State) : (doCommit s).Sound 1 s := by
  refine sound_checked fun h => ?_
  have hrun : s.inRun = false := by simpa using h (s.inRun, .refusedMode) (by simp)
  split
  · exact sound_unchanged s _ _
  · exact sound_done (takeConfiguration_keeps hrun workingCopy_rising)

theorem profileOf_rising (h : TablesRising s = true) : (profileOf s).config.rising = true := inForce_rising h

theorem doStoreProfile_sound (s : State) : (doStoreProfile s).Sound 1 s := by
  refine sound_checked fun _ => sound_carried (status := .accepted) (setControl_keeps rfl fun h => ?_) rfl
  exact ⟨(controlRising_of_tablesRising h).1, by simp, fun _ hw => by cases hw; exact profileOf_rising h⟩

theorem doRestart_sound (operand : Nat) (s : State) : (doRestart operand s).Sound 1 s := by
  unfold doRestart
  split
  · exact sound_silent (fullRestart_keeps ..)
  · split
    · exact sound_checked fun _ => sound_silent (softRestart_keeps s)
    · exact sound_refuse s _

/-- A record put into one table of a configuration leaves its numbers rising. -/
theorem Configuration.rising_define {c d : Configuration} {kind number : Nat} {fields : List Nat} {replaced : Bool}
    (hc : c.rising = true) (hd : c.define kind number fields = some (d, replaced)) : d.rising = true := by
  rw [Configuration.rising_iff] at hc ⊢
  obtain ⟨h0, h2, h3, h4, h5, h6, h9⟩ := hc
  unfold Configuration.define at hd
  split at hd
  case h_9 => cases hd
  all_goals
    obtain ⟨x, _, hx⟩ := Option.map_eq_some_iff.1 hd
    cases hx
    simp [Table.rising_put, *]

theorem Configuration.rising_delete {c d : Configuration} {kind number : Nat} (hc : c.rising = true)
    (hd : c.delete kind number = some d) : d.rising = true := by
  rw [Configuration.rising_iff] at hc ⊢
  obtain ⟨h0, h2, h3, h4, h5, h6, h9⟩ := hc
  unfold Configuration.delete at hd
  split at hd
  case h_8 => cases hd
  all_goals
    obtain ⟨_, hsome⟩ := Option.ite_none_right_eq_some.1 hd
    cases hsome
    simp [Table.rising_erase, *]

theorem doDefine_sound (kind number : Nat) (fields : List Nat) (s : State) : (doDefine kind number fields s).Sound 1 s := by
  refine sound_checked fun _ => ?_
  split
  next c replaced hd => exact sound_done (setWorking_keeps fun h => Configuration.rising_define (workingCopy_rising h) hd)
  next => exact sound_refuse s _

theorem stopDeletedFan_keeps (kind number : Nat) (s : State) : Keeps s (stopDeletedFan kind number s) := by
  unfold stopDeletedFan
  split
  · exact modFan_keeps fun f _ => ⟨fun _ _ => rfl, id, id⟩
  · exact .refl s

theorem doDelete_sound (kind number : Nat) (s : State) : (doDelete kind number s).Sound 1 s := by
  refine sound_checked fun _ => ?_
  split
  next c hd =>
    exact sound_done ((setWorking_keeps fun h => Configuration.rising_delete (workingCopy_rising h) hd).trans
      (stopDeletedFan_keeps ..))
  next => exact sound_refuse s _

theorem doSetPollList_sound (position : Nat) (entries : List Nat) (s : State) :
    (doSetPollList position entries s).Sound 1 s :=
  sound_checked fun _ => sound_done (setWorking_keeps fun h => workingCopy_rising h)

/-! ### Tables and settings -/

theorem setGuidance_keeps {g : Guidance} (hq : g.queue = s.guidance.queue) (hh : g.holds = s.guidance.holds) :
    Keeps s (s.setGuidance g) := Calm.keeps { Calm.refl s with queue := hq, holds := hh }

theorem doSetClassTable_sound (entries : List Nat) (s : State) : (doSetClassTable entries s).Sound 1 s :=
  sound_checked fun _ => sound_done ((setGuidance_keeps (by rfl) (by rfl)).trans (allocationPass_keeps _))

theorem doSetPenalty_sound (penalties : List Nat) (s : State) : (doSetPenalty penalties s).Sound 1 s :=
  sound_checked fun _ => sound_done ((setGuidance_keeps (by rfl) (by rfl)).trans (allocationPass_keeps _))

theorem doSetGuidanceTimes_sound (maxWait holdTime substitution : Nat) (s : State) :
    (doSetGuidanceTimes maxWait holdTime substitution s).Sound 1 s :=
  sound_checked fun _ => sound_clamped (setGuidance_keeps (by rfl) (by rfl)) _

theorem doSetAllowance_sound (normal shed : Nat) (s : State) : (doSetAllowance normal shed s).Sound 1 s :=
  sound_checked fun _ => sound_clamped ((setSupply_keeps ..).trans (settle_keeps ..)) _

theorem doSetStageTable_sound (stages : List StageRow) (hysteresis dwell : Nat) (s : State) :
    (doSetStageTable stages hysteresis dwell s).Sound 1 s :=
  have htable : Keeps s { s with stageTable := { stages := stages, hysteresis := hysteresis, dwell := dwell } } :=
    Calm.keeps { Calm.refl s with }
  sound_checked fun _ => sound_done (htable.trans (forEach_keepsLaws _ evaluateZone_keeps _ _))

theorem writeTraffic_keeps (level : Nat) (slots : List (Option TrafficRange)) (s : State) :
    Keeps s (writeTraffic level slots s) := by
  unfold writeTraffic
  dsimp only
  split
  · exact modLevel_keeps ..
  · refine (modLevel_keeps ..).trans (setWorking_keeps fun h => ?_)
    simpa [Configuration.rising_iff] using Configuration.rising_iff.1 (workingCopy_rising h)

theorem doSetTrafficTable_sound (level : Nat) (slots : List SlotOperand) (s : State) :
    (doSetTrafficTable level slots s).Sound 1 s :=
  sound_checked fun _ => sound_done ((writeTraffic_keeps ..).trans (settle_keeps ..))

theorem cancelOverride_keeps (zone : Nat) (s : State) : Keeps s (cancelOverride zone s) := by
  unfold cancelOverride
  split
  · exact .refl s
  · split
    · exact .refl s
    · exact (modZone_keeps ..).trans (post_keeps ..)

theorem doVentOverride_sound (zone demand duration : Nat) (s : State) : (doVentOverride zone demand duration s).Sound 1 s := by
  refine sound_checked fun _ => ?_
  split
  · exact sound_done ((cancelOverride_keeps ..).trans (settle_keeps ..))
  · exact sound_clamped ((modZone_keeps ..).trans (settle_keeps ..)) _

theorem writeLight_keeps (row : Nat) (v : LightLevels) (s : State) : Keeps s (writeLight row v s) := by
  have hrows : Keeps s { s with
      fade := v.fade
      rows := s.rows.mapRecords fun n r =>
        if lightTarget row n then ({ r with cfg := r.cfg.withLight v } : Row).rerequested else r } := by
    refine Calm.keeps { Calm.refl s with rowSteps := ?_ }
    unfold State.rowSteps
    rw [Table.mapRecords_mapRecords]
    congr 1
    funext n r
    split <;> rfl
  unfold writeLight
  dsimp only
  split
  · exact hrows
  · refine hrows.trans (setWorking_keeps fun h => ?_)
    simpa [Configuration.rising_iff] using Configuration.rising_iff.1 (workingCopy_rising h)

theorem doSetLightLevels_sound (row base active hold fade : Nat) (s : State) :
    (doSetLightLevels row base active hold fade s).Sound 1 s :=
  sound_checked fun _ => sound_clamped ((writeLight_keeps ..).trans (settle_keeps ..)) _

/-! ### Fans and the census -/

theorem setPattern_keeps (zone : Nat) (p : Pattern) (s : State) : Keeps s (setPattern zone p s) :=
  (modZone_keeps ..).trans (forEach_keepsLaws _ beginReversal_keeps _ _)

theorem doSetFlowPattern_sound (zone pattern : Nat) (s : State) : (doSetFlowPattern zone pattern s).Sound 1 s := by
  refine sound_checked fun _ => ?_
  split
  · exact sound_refuse s _
  · exact sound_done (setPattern_keeps ..)

/-- A FAULTED or ISOLATED fan that takes another state at its speed, which is 0. -/
theorem Fan.lawful_returned {run : Bool} {f : Fan} {state : FanState} (h : f.state = .faulted ∨ f.state = .isolated)
    (hrun : run = true ∨ state = .held) : f.Lawful run { f with state := state } where
  atRest hrest _ := hrest (by tauto)
  classFits := id
  stepFits hfits := by
    refine ⟨fun hheld => ?_, hrun.imp id .inl⟩
    rcases hfits.1 hheld with hst | hst <;> rcases h with h | h <;> exact absurd (hst.symm.trans h) (by decide)

theorem fanReturn_keeps {ch : Nat} {f : Fan} (hfind : s.fans.find ch = some f) (h : f.state = .faulted ∨ f.state = .isolated) :
    Keeps s (fanReturn ch s) := by
  have returned {state : FanState} (hrun : s.inRun = true ∨ state = .held) :
      Keeps s (s.modFan ch fun f => { f with state := state }) :=
    modFan_keeps fun g hg => Fan.lawful_returned (by rwa [Option.some.inj (hfind.symm.trans hg)] at h) hrun
  unfold fanReturn
  split
  next hrun => exact ((returned (.inl hrun)).trans (beginReversal_keeps ..)).trans (settle_keeps ..)
  next => exact returned (.inr rfl)

theorem doClearFan_sound (ch : Nat) (s : State) : (doClearFan ch s).Sound 1 s := by
  refine sound_checked fun _ => ?_
  split
  · exact sound_refuse s _
  next f hfind =>
    dsimp only
    split
    next h => exact sound_done (fanReturn_keeps hfind (.inl h.1))
    next => exact sound_unchanged s _ _

theorem doIsolateFan_sound (ch : Nat) (s : State) : (doIsolateFan ch s).Sound 1 s := by
  refine sound_checked fun _ => ?_
  split
  · exact sound_refuse s _
  · split
    · exact sound_done (.refl s)
    · exact sound_done ((modFan_keeps fun f _ => f.lawful_withdrawn _ (.inr rfl)).trans (leaveLoads_keeps ..))

theorem doRestoreFan_sound (ch : Nat) (s : State) : (doRestoreFan ch s).Sound 1 s := by
  refine sound_checked fun _ => ?_
  split
  · exact sound_refuse s _
  next f hfind =>
    split
    next h =>
      split
      · exact sound_done (fanToFault_keeps ..)
      · exact sound_done (fanReturn_keeps hfind (.inr h))
    next => exact sound_unchanged s _ _

theorem doManualFan_sound (ch speed : Nat) (s : State) : (doManualFan ch speed s).Sound 1 s := by
  refine sound_checked fun _ => ?_
  split
  · exact sound_refuse s _
  next f hfind =>
    split
    next hheld =>
      refine sound_clamped (modFan_keeps fun g hg => ?_) _
      rw [← Option.some.inj (hfind.symm.trans hg)]
      exact ⟨fun _ h => by simp [hheld] at h, id, id⟩
    next => exact sound_unchanged s _ _

theorem doCensus_sound (level : Nat) (s : State) : (doCensus level s).Sound 1 s := by
  refine sound_checked fun _ => ?_
  split
  · exact sound_done (.refl s)
  · exact sound_done (((setPending_keeps ..).trans (censusCheck_keeps ..)).trans (settle_keeps ..))

/-! ### Requests and holds -/

/-- A request placed under the next ticket, with room in the queue. -/
theorem enqueue_keeps {r : Request} (hroom : s.guidance.queue.length < 32) (hrun : s.inRun = true)
    (hr : r.ticket = issueTicket s.guidance) :
    Keeps s (s.setGuidance { s.guidance with lastTicket := r.ticket, queue := enqueue r s.guidance.queue }) where
  toLasting := allocation_lasting rfl (fun _ => ((enqueue_perm r _).length_eq).trans_le hroom) id
  matched hfits _ hm := by
    have m := holdsMatch_iff.1 hm
    refine holdsMatch_iff.2 (m.enqueue hrun ?_)
    rw [hr]
    exact issueTicket_not_live (by have := hfits.1; have := hfits.2; omega)

theorem placeRequest_keeps (st : Station) (cls lane : Nat) (priority : Bool) (hroom : s.guidance.queue.length < 32)
    (hrun : s.inRun = true) : Keeps s (placeRequest st cls lane priority s) :=
  ((enqueue_keeps hroom hrun rfl).trans (allocationPassFor_keeps ..)).trans (settle_keeps ..)

theorem doRequestBay_sound (st : Station) (cls lane priority : Nat) (s : State) :
    (doRequestBay st cls lane priority s).Sound 1 s := by
  refine sound_checked fun h => sound_done (placeRequest_keeps _ _ _ _ ?_ ?_)
  · simpa using h (decide (32 ≤ s.guidance.queue.length), .queueFull) (by simp)
  · simpa using h (!s.inRun, .refusedMode) (by simp)

theorem doWithdraw_sound (st : Station) (ticket : Nat) (s : State) : (doWithdraw st ticket s).Sound 1 s := by
  refine sound_checked fun _ => ?_
  split
  next r _ =>
    refine sound_done ?_
    split
    · exact removeRequest_keeps ..
    · exact (removeRequest_keeps ..).trans (postTo_keeps ..)
  next =>
    split
    · exact sound_unchanged s _ _
    · exact sound_refuse s _

theorem doWithdrawNewest_sound (st : Station) (s : State) : (doWithdrawNewest st s).Sound 1 s := by
  unfold doWithdrawNewest
  split
  · exact sound_done (removeRequest_keeps ..)
  · exact sound_refuse s _

theorem doCancelHold_sound (ticket : Nat) (s : State) : (doCancelHold ticket s).Sound 1 s := by
  refine sound_checked fun _ => ?_
  split
  next h hh =>
    exact sound_done (((lapseHold_keeps (findHold_mem hh) (by simp) 1).trans (allocationPass_keeps _)).trans (settle_keeps ..))
  next =>
    split
    · exact sound_refuse s _
    · exact sound_refuse s _

/-! ### Claims and closures -/

theorem setAdmin_keeps_of_find {bay : Nat} {b : Bay} {a : Admin} (hfind : s.bays.find bay = some b)
    (hold : HoldsMatch s = true → ∀ t, b.admin ≠ .held t) (hnew : ∀ t, a ≠ .held t) : Keeps s (setAdmin bay a s) :=
  setAdmin_keeps (fun hm _ t hb => Option.some.inj (hfind.symm.trans hb) ▸ hold hm t) hnew

theorem doClaimBay_sound (st : Station) (bay expected : Nat) (s : State) : (doClaimBay st bay expected s).Sound 1 s := by
  refine sound_checked fun h => ?_
  have hexpected : expectable expected = true := by
    have := h (!(within 0 1023 bay && expectable expected), .badArgument) (by simp)
    simp only [Bool.not_eq_false', Bool.and_eq_true] at this
    exact this.2
  split
  · exact sound_refuse s _
  next b hfind =>
    split
    next hcode =>
      refine sound_done (setAdmin_keeps_of_find hfind (fun _ t hheld => ?_) (by simp))
      rw [← hcode, hheld] at hexpected
      cases hexpected
    next => exact sound_unchanged s _ _

/-- A HELD bay has its hold in the list (R60). -/
theorem findHold_of_held {bay t : Nat} {b : Bay} (hm : HoldsMatch s = true) (hfind : s.bays.find bay = some b)
    (hheld : b.admin = .held t) : findHold s.guidance.holds t ≠ none := by
  have hadmin : (bay, Admin.held t) ∈ s.admins :=
    List.mem_map.2 ⟨(bay, b), Table.find_mem _ _ _ hfind, Prod.ext rfl hheld⟩
  obtain ⟨h, hh, ht, _⟩ := (holdsMatch_iff.1 hm).hold bay t hadmin
  intro hnone
  exact List.find?_eq_none.1 hnone h hh (decide_eq_true ht)

theorem closeBay_keeps {bay : Nat} {b : Bay} (hfind : s.bays.find bay = some b) : Keeps s (closeBay bay b s).1 := by
  have closed (hold : HoldsMatch s = true → ∀ t, b.admin ≠ .held t) : Keeps s (setAdmin bay .closed s) :=
    setAdmin_keeps_of_find hfind hold (by simp)
  unfold closeBay
  split
  next t hheld =>
    split
    next h hh =>
      exact ((lapseHold_keeps (findHold_mem hh) (by simp) 2).trans (allocationPass_keeps _)).trans (settle_keeps ..)
    next hnone => exact closed fun hm _ _ => findHold_of_held hm hfind hheld hnone
  next hadmin => exact closed (by simp [hadmin])
  next hadmin => exact closed (by simp [hadmin])
  next => exact .refl s

theorem doCloseBay_sound (bay : Nat) (s : State) : (doCloseBay bay s).Sound 1 s := by
  refine sound_checked fun _ => ?_
  split
  · exact sound_refuse s _
  next b hfind => exact sound_done (closeBay_keeps hfind)

theorem reopenBay_keeps {bay : Nat} {b : Bay} (hfind : s.bays.find bay = some b) (hold : ∀ t, b.admin ≠ .held t) :
    Keeps s (reopenBay bay s) :=
  ((setAdmin_keeps_of_find hfind (fun _ => hold) (by simp)).trans (allocationPass_keeps _)).trans (settle_keeps ..)

theorem doReleaseClaim_sound (bay : Nat) (s : State) : (doReleaseClaim bay s).Sound 1 s := by
  refine sound_checked fun _ => ?_
  split
  · exact sound_refuse s _
  next b hfind =>
    split
    next hadmin => exact sound_done (reopenBay_keeps hfind (by simp [hadmin]))
    all_goals exact sound_unchanged s _ _

theorem doOpenBay_sound (bay : Nat) (s : State) : (doOpenBay bay s).Sound 1 s := by
  refine sound_checked fun _ => ?_
  split
  · exact sound_refuse s _
  next b hfind =>
    split
    next hadmin => exact sound_done (reopenBay_keeps hfind (by simp [hadmin]))
    next => exact sound_unchanged s _ _

/-! ### Every command -/

/-- The most answers a command gives: two of READ_LOADS, one of any other (R175). -/
def mostAnswers (c : Command) : Nat := if c.code = 0x07 then 2 else 1

theorem execute_sound (st : Station) (c : Command) (s : State) : (execute st c s).Sound (mostAnswers c) s := by
  cases c with
  | readStatus => exact doReadStatus_sound st s
  | readEvents count => exact doReadEvents_sound st count s
  | setEventMask mask => exact doSetEventMask_sound st mask s
  | readRecord kind number part => exact doReadRecord_sound kind number part s
  | readQueue page => exact sound_done (.refl s)
  | readHolds page => exact sound_done (.refl s)
  | readLoads page => exact doReadLoads_sound page s
  | enterConfig => exact doEnterConfig_sound s
  | commit => exact doCommit_sound s
  | storeProfile => exact doStoreProfile_sound s
  | restart operand => exact doRestart_sound operand s
  | define kind number fields => exact doDefine_sound kind number fields s
  | delete kind number => exact doDelete_sound kind number s
  | setPollList position entries => exact doSetPollList_sound position entries s
  | setClassTable entries => exact doSetClassTable_sound entries s
  | setPenalty penalties => exact doSetPenalty_sound penalties s
  | setAllowance normal shed => exact doSetAllowance_sound normal shed s
  | setStageTable stages hysteresis dwell => exact doSetStageTable_sound stages hysteresis dwell s
  | setTrafficTable level slots => exact doSetTrafficTable_sound level slots s
  | ventOverride zone demand duration => exact doVentOverride_sound zone demand duration s
  | setFlowPattern zone pattern => exact doSetFlowPattern_sound zone pattern s
  | clearFan channel => exact doClearFan_sound channel s
  | isolateFan channel => exact doIsolateFan_sound channel s
  | restoreFan channel => exact doRestoreFan_sound channel s
  | manualFan channel speed => exact doManualFan_sound channel speed s
  | census level => exact doCensus_sound level s
  | setLightLevels row base active hold fade => exact doSetLightLevels_sound row base active hold fade s
  | setGuidanceTimes maxWait holdTime substitution => exact doSetGuidanceTimes_sound maxWait holdTime substitution s
  | requestBay cls lane priority => exact doRequestBay_sound st cls lane priority s
  | withdraw ticket => exact doWithdraw_sound st ticket s
  | withdrawNewest => exact doWithdrawNewest_sound st s
  | cancelHold ticket => exact doCancelHold_sound ticket s
  | queueCount => exact sound_done (.refl s)
  | claimBay bay expected => exact doClaimBay_sound st bay expected s
  | releaseClaim bay => exact doReleaseClaim_sound bay s
  | closeBay bay => exact doCloseBay_sound bay s
  | openBay bay => exact doOpenBay_sound bay s

/-- Settles O11: each refusal of each command leaves the state it was given. -/
theorem refusedCommandsChangeNothing : Obligations.RefusedCommandsChangeNothing := by
  unfold Obligations.RefusedCommandsChangeNothing
  intro st c s t status contents he hno
  have h := (execute_sound st c s).refused (status, contents) (by simp [he]) hno
  rwa [he] at h

end Sys2Proof.Machine
end

section
/-! Every step keeps the laws: ports, the rows no station commands, and the obligations read off. -/

namespace Sys2Proof.Machine
variable {s t u : State}

/-! ### Steps -/

/-- Every law that holds in `s` holds in `t`, the bounds of the ports with them. -/
structure StepKeeps (s t : State) : Prop extends KeepsRecords s t where
  ports : (∀ st, (s.port st).bounded = true) → ∀ st, (t.port st).bounded = true
  matched : GuidanceFits s → TablesRising s = true → HoldsMatch s = true → HoldsMatch t = true

theorem Port.bounded_iff {p : Port} :
    p.bounded = true ↔ p.commands.length ≤ 2 ∧ p.responses.length ≤ 2 ∧ p.events.length ≤ 24 := by
  simp [Port.bounded, and_assoc]

theorem Port.Quiet.bounded {p q : Port} (h : p.Quiet q) (hp : p.bounded = true) : q.bounded = true := by
  obtain ⟨hc, hr, he⟩ := Port.bounded_iff.1 hp
  exact Port.bounded_iff.2 ⟨h.commands.trans hc, h.responses.trans hr, h.events he⟩

theorem Keeps.stepKeeps (h : Keeps s t) : StepKeeps s t :=
  ⟨h.toKeepsRecords, fun hp st => (h.port st).bounded (hp st), h.matched⟩

theorem StepKeeps.refl (s : State) : StepKeeps s s := (Keeps.refl s).stepKeeps

theorem StepKeeps.trans (h : StepKeeps s t) (k : StepKeeps t u) : StepKeeps s u :=
  ⟨h.toKeepsRecords.trans k.toKeepsRecords, k.ports ∘ h.ports,
    fun hb ht hm => k.matched (h.guidanceFits hb) (h.tables ht) (h.matched hb ht hm)⟩

/-- Of a port no law but its bounds is read. -/
theorem setPort_stepKeeps {st : Station} {p : Port}
    (h : (∀ st, (s.port st).bounded = true) → p.bounded = true) : StepKeeps s (s.setPort st p) := by
  have hs : KeepsRecords s (s.setPort st p) := by cases st <;> exact ⟨rfl, id, id, id, id, id, id, id⟩
  refine ⟨hs, fun hp st' => ?_, fun _ _ => by cases st <;> exact id⟩
  rw [State.port_setPort]
  split
  · exact h hp
  · exact hp st'

/-! ### Entries taken -/

theorem responsesOf_length (st : Station) (e : Entry) (overrun : Bool) (s : State) (out : Answers) :
    (responsesOf st e overrun s out).length = out.length := by
  induction out generalizing overrun with
  | nil => rfl
  | cons a rest ih => simp [responsesOf, ih]

theorem judgeEntry_sound (st : Station) (e : Entry) (s : State) : (judgeEntry st e s).Sound (slotsNeeded e) s := by
  have hone : 1 ≤ slotsNeeded e := by unfold slotsNeeded; split <;> decide
  cases e with
  | badFrame tag => exact (sound_refuse s _).mono hone
  | unknown tag code => exact (sound_refuse s _).mono hone
  | misfit tag code => exact (sound_checked fun _ => sound_refuse s _).mono hone
  | command tag c =>
    simp only [judgeEntry, checked_cons, checked_nil]
    split
    · exact (sound_refuse s _).mono hone
    · split
      · exact (sound_refuse s _).mono hone
      · exact execute_sound st c s

theorem placeResponses_port (st : Station) (e : Entry) (overrun : Bool) (out : Effect) :
    placeResponses st e overrun out = out.1 ∨
      placeResponses st e overrun out = out.1.setPort st
        { out.1.port st with
          responses := (out.1.port st).responses ++ responsesOf st e overrun out.1 out.2, overrun := false } := by
  unfold placeResponses
  split
  · exact .inl rfl
  · exact .inr rfl

/-- An entry taken where its port has room for its response (R175). -/
theorem takeEntry_stepKeeps {st : Station} {e : Entry} {rest : List Entry} (hroom : hasRoom (s.port st) e = true)
    (hrest : rest.length ≤ (s.port st).commands.length) : StepKeeps s (takeEntry st e rest s) := by
  have hroom : (s.port st).responses.length + slotsNeeded e ≤ 2 := of_decide_eq_true hroom
  have htaken : Keeps s (s.setPort st { s.port st with commands := rest }) := setPort_keeps ⟨hrest, le_rfl, id⟩
  have hsound := judgeEntry_sound st e (s.setPort st { s.port st with commands := rest })
  have hkeeps := htaken.trans hsound.keeps
  refine hkeeps.stepKeeps.trans ?_
  rcases placeResponses_port st e (s.port st).overrun (judgeEntry st e (s.setPort st { s.port st with commands := rest }))
    with heq | heq
  · rw [takeEntry, heq]; exact .refl _
  · rw [takeEntry, heq]
    refine setPort_stepKeeps fun hp => ?_
    obtain ⟨hc, _, hev⟩ := Port.bounded_iff.1 (hp st)
    refine Port.bounded_iff.2 ⟨hc, ?_, hev⟩
    have hquiet := (hkeeps.port st).responses
    have hfew := hsound.few
    rw [List.length_append, responsesOf_length]
    omega

theorem takeEntries_stepKeeps (st : Station) (fuel : Nat) (s : State) : StepKeeps s (takeEntries st fuel s) := by
  induction fuel generalizing s with
  | zero => exact .refl s
  | succ fuel ih =>
    rw [takeEntries]
    split
    · exact .refl s
    next e rest hc =>
      split
      next hroom => exact (takeEntry_stepKeeps hroom (by simp [hc])).trans (ih _)
      next => exact .refl s

theorem takeReady_stepKeeps (st : Station) (s : State) : StepKeeps s (takeReady st s) := takeEntries_stepKeeps st _ s

/-! ### Arrivals and transactions -/

theorem arrive_stepKeeps (st : Station) (e : Entry) (s : State) : StepKeeps s (arrive st e s) := by
  unfold arrive
  dsimp only
  split
  next hroom =>
    refine StepKeeps.trans (setPort_stepKeeps fun hp => ?_) (takeReady_stepKeeps st _)
    obtain ⟨_, hr, hev⟩ := Port.bounded_iff.1 (hp st)
    exact Port.bounded_iff.2 ⟨by simp; omega, hr, hev⟩
  next => exact setPort_stepKeeps fun hp => hp st

theorem receive_stepKeeps (st : Station) (e : Entry) (s : State) : StepKeeps s (receive st e s) := by
  unfold receive
  split
  · exact .refl s
  · exact arrive_stepKeeps st e s

theorem setTransaction_stepKeeps (st : Station) (x : PortTransaction) (s : State) :
    StepKeeps s (s.setPort st { s.port st with transaction := x }) := setPort_stepKeeps fun hp => hp st

theorem selFalls_stepKeeps (st : Station) (s : State) : StepKeeps s (selFalls st s) := by
  unfold selFalls
  dsimp only
  split
  · split
    · exact setTransaction_stepKeeps ..
    · exact setTransaction_stepKeeps ..
  · exact .refl s
  · exact .refl s

theorem frameBytes_stepKeeps (st : Station) (bytes : List Byte) (s : State) : StepKeeps s (frameBytes st bytes s) := by
  unfold frameBytes
  dsimp only
  split
  · split
    · exact (setTransaction_stepKeeps ..).trans (arrive_stepKeeps ..)
    · split
      · exact setTransaction_stepKeeps ..
      · exact .refl s
  all_goals exact .refl s

theorem readOutDone_stepKeeps (st : Station) (s : State) : StepKeeps s (readOutDone st s) := by
  unfold readOutDone
  dsimp only
  split
  · refine StepKeeps.trans (setPort_stepKeeps fun hp => ?_) (takeReady_stepKeeps st _)
    obtain ⟨hc, hr, hev⟩ := Port.bounded_iff.1 (hp st)
    exact Port.bounded_iff.2 ⟨hc, by simp; omega, hev⟩
  all_goals exact .refl s

theorem selRises_stepKeeps (st : Station) (bytes : List Byte) (s : State) : StepKeeps s (selRises st bytes s) := by
  unfold selRises
  dsimp only
  split
  · split
    · exact (setTransaction_stepKeeps ..).trans (arrive_stepKeeps ..)
    · exact setTransaction_stepKeeps ..
  · exact setTransaction_stepKeeps ..
  · exact .refl s
  · exact setTransaction_stepKeeps ..

/-! ### The rows no station commands -/

theorem whenRunning_keeps {f : State → State} (h : ∀ s, Keeps s (f s)) (s : State) : Keeps s (whenRunning f s) := by
  unfold whenRunning
  split
  · exact .refl s
  · exact h s

theorem setPins_keeps (p : Pins) (s : State) : Keeps s { s with pins := p } := Calm.keeps { Calm.refl s with }

theorem rampInput_keeps (pair : Nat) (side : LoopSide) (high : Bool) (s : State) :
    Keeps s
      (if s.pins.ramp pair side = high then s
      else whenRunning (startSettle pair) { s with pins := s.pins.withRamp pair side high }) := by
  split
  · exact .refl s
  · exact (setPins_keeps _ s).trans (whenRunning_keeps (fun s => modPair_keeps pair _ s) _)

theorem censusMinute_keeps (s : State) : Keeps s (censusMinute s) := by
  unfold censusMinute
  exact Calm.keeps { Calm.refl s with levels := by simp only [Table.numbers_mapRecords] }

theorem startCensus_keeps (s : State) : Keeps s (startCensus s) := by
  refine Keeps.trans ?_ (forEach_keepsLaws _ censusCheck_keeps _ _)
  exact Calm.keeps { Calm.refl s with levels := by simp only [Table.numbers_mapRecords] }

theorem requestSent_keeps (s : State) : Keeps s (requestSent s) := by
  unfold requestSent
  split
  · exact setLoop_keeps rfl rfl
  · exact .refl s

theorem replyCharacters_keeps (chars : List FieldChar) (s : State) : Keeps s (replyCharacters chars s) := by
  unfold replyCharacters
  split
  · exact .refl s
  · split
    · dsimp only
      split
      · exact finishTransaction_keeps ..
      · exact setLoop_keeps rfl rfl
    · exact .refl s

theorem replyExpires_keeps (s : State) : Keeps s (replyExpires s) := by
  unfold replyExpires
  split
  · exact .refl s
  · split
    · exact finishTransaction_keeps ..
    · exact .refl s

theorem drainEnds_keeps (s : State) : Keeps s (drainEnds s) := by
  unfold drainEnds
  split
  · exact endDrain_keeps s
  · exact .refl s

theorem lightExpire_keeps (n : Nat) (s : State) : Keeps s (lightExpire n s) := by
  unfold lightExpire
  split
  · exact .refl s
  · split
    · exact (modRow_keeps (by simp)).trans (settle_keeps ..)
    · exact .refl s

theorem riseExpire_keeps (n : Nat) (s : State) : Keeps s (riseExpire n s) := by
  unfold riseExpire
  split
  · exact .refl s
  next r hfind =>
    split
    next e hrising =>
      split
      · refine rowRise_keeps (.inr fun x hx => ?_)
        obtain rfl : r = x := Option.some.inj (hfind.symm.trans hx)
        simp [hrising]
      · exact .refl s
    all_goals exact .refl s

theorem fadeExpire_keeps (n : Nat) (s : State) : Keeps s (fadeExpire n s) := by
  unfold fadeExpire
  split
  · exact .refl s
  next r hfind =>
    split
    next e hfading =>
      split
      · refine (modRow_keeps_of_moving (.inr fun x hx => ?_)).trans (retryOnDecrease_keeps ..)
        obtain rfl : r = x := Option.some.inj (hfind.symm.trans hx)
        simp [hfading]
      · exact .refl s
    all_goals exact .refl s

theorem airMinute_keeps (s : State) : Keeps s (airMinute s) := by
  unfold airMinute
  refine Keeps.trans ?_ (forEach_keepsLaws _ evaluateZone_keeps _ _)
  exact Calm.keeps { Calm.refl s with zones := by simp only [Table.numbers_mapRecords] }

theorem accelerationExpire_keeps (ch : Nat) (s : State) : Keeps s (accelerationExpire ch s) := by
  unfold accelerationExpire
  split
  · exact .refl s
  next f hfind =>
    split
    next h =>
      refine fanAccelerate_keeps fun x hx => ?_
      obtain rfl : f = x := Option.some.inj (hfind.symm.trans hx)
      exact .inr h.1
    next => exact .refl s

/-- A step of a fan that runs down ends at 0 or stays in its state. -/
theorem Fan.lawful_descend {run : Bool} {f : Fan} (now : Time) {rest : FanState} (timer : Option Time)
    (hst : f.state = .decelerating ∨ f.state = .reversingDown) :
    f.Lawful run (f.descend now rest timer) := by
  have hheld (hfits : f.StepFits run) : f.rampHeld = true → False := fun h => by
    rcases hfits.1 h with h | h <;> rcases hst with hst | hst <;> exact absurd (h.symm.trans hst) (by decide)
  have hrun (hfits : f.StepFits run) : run = true := hfits.run_of_state (by rcases hst with h | h <;> simp [h])
  unfold Fan.descend
  split
  · exact ⟨fun _ => by rcases hst with h | h <;> simp [Fan.AtRest, h], id,
      fun hfits => ⟨fun h => (hheld hfits h).elim, .inl (hrun hfits)⟩⟩
  · exact ⟨fun _ _ => rfl, id, fun hfits => ⟨fun h => (hheld hfits h).elim, .inl (hrun hfits)⟩⟩

theorem Fan.lawful_decelerated {run : Bool} {f : Fan} (now : Time) (hst : f.state = .decelerating) :
    f.Lawful run (f.decelerated now) := by
  have hheld (hfits : f.StepFits run) : f.rampHeld = true → False := fun h => by
    rcases hfits.1 h with h | h <;> exact absurd (h.symm.trans hst) (by decide)
  have hrun (hfits : f.StepFits run) : run = true := hfits.run_of_state (by simp [hst])
  unfold Fan.decelerated
  split
  · exact Fan.lawful_descend now none (.inl hst)
  · split
    · exact ⟨fun _ => by simp [Fan.AtRest, hst], id,
        fun hfits => ⟨fun h => (hheld hfits h).elim, .inl (hrun hfits)⟩⟩
    · exact ⟨fun _ => by simp [Fan.AtRest], id,
        fun hfits => ⟨fun h => (hheld hfits h).elim, .inl (hrun hfits)⟩⟩

theorem decelerationExpire_keeps (ch : Nat) (s : State) : Keeps s (decelerationExpire ch s) := by
  unfold decelerationExpire
  split
  · exact .refl s
  next f hfind =>
    have stepped {g : Fan → Fan} (hg : f.Lawful s.inRun (g f)) : Keeps s (retryOnDecrease s (s.modFan ch g)) :=
      Keeps.trans (modFan_keeps fun x hx => Option.some.inj (hfind.symm.trans hx) ▸ hg) (retryOnDecrease_keeps ..)
    split
    · split
      next hst => exact stepped (f.lawful_decelerated _ hst)
      · split
        next hst => exact stepped (f.lawful_descend _ _ (.inr hst))
        · exact .refl s
    · exact .refl s

/-- A fan at the end of its reverse dwell, before its start step: STOPPED in its due direction, FAN_REVERSED posted where that is
another (R135). -/
def dwellEnded (ch : Nat) (f : Fan) (s : State) : State :=
  let s1 := s.modFan ch fun x => { x with direction := s.dueDirection f, state := .stopped, timer := none }
  if s.dueDirection f = f.direction then s1 else post .fanReversed ch (s.dueDirection f).code f.direction.code s1

theorem reverseDwellExpire_of_find {ch : Nat} {f : Fan} (hfind : s.fans.find ch = some f) :
    reverseDwellExpire ch s =
      if f.state = .reverseDwell ∧ timerDue s.deckTime f.timer then
        (if 0 < f.granted then fanStart ch (dwellEnded ch f s) else dwellEnded ch f s)
      else s := by
  simp only [reverseDwellExpire, hfind, dwellEnded]

theorem dwellEnded_fans {ch : Nat} {f : Fan} (hfind : s.fans.find ch = some f) :
    (dwellEnded ch f s).fans.find ch =
      some { f with direction := s.dueDirection f, state := .stopped, timer := none } := by
  have hstopped := modFan_find (fun x => { x with direction := s.dueDirection f, state := .stopped, timer := none }) hfind
  unfold dwellEnded
  dsimp only
  split
  · exact hstopped
  · rwa [(post_within ..).fans_eq (by decide)]

theorem dwellEnded_keeps {ch : Nat} {f : Fan} (hfind : s.fans.find ch = some f) (hst : f.state = .reverseDwell) :
    Keeps s (dwellEnded ch f s) := by
  have hstopped : Keeps s
      (s.modFan ch fun x => { x with direction := s.dueDirection f, state := .stopped, timer := none }) := by
    refine modFan_keeps fun x hx => ?_
    obtain rfl : f = x := Option.some.inj (hfind.symm.trans hx)
    exact .of_moving (.inr (by simp [hst])) (fun hrest _ => hrest (.inr (.inl hst))) rfl rfl (by simp)
  unfold dwellEnded
  dsimp only
  split
  · exact hstopped
  · exact hstopped.trans (post_keeps ..)

theorem reverseDwellExpire_keeps (ch : Nat) (s : State) : Keeps s (reverseDwellExpire ch s) := by
  cases hfind : s.fans.find ch with
  | none => simpa [reverseDwellExpire, hfind] using Keeps.refl s
  | some f =>
    rw [reverseDwellExpire_of_find hfind]
    split
    next h =>
      have hended := dwellEnded_keeps hfind h.1
      split
      · refine hended.trans (fanStart_keeps fun x hx => ?_)
        rw [dwellEnded_fans hfind] at hx
        cases hx
        exact .inl rfl
      · exact hended
    next => exact .refl s

theorem faultAsserted_keeps (ch : Nat) (s : State) : Keeps s (faultAsserted ch s) := by
  unfold faultAsserted
  split
  · exact .refl s
  · split
    · exact (fanToFault_keeps ..).trans (leaveLoads_keeps ..)
    · exact .refl s

/-- A profile write ended with the store as it was. -/
theorem endWrite_keeps (s : State) : Keeps s (s.setControl { s.control with write := none }) :=
  setControl_keeps rfl fun h => by
    obtain ⟨hworking, hstore, _⟩ := controlRising_of_tablesRising h
    exact ⟨hworking, hstore, by simp⟩

theorem writeCompletes_keeps (crcGood : Bool) (s : State) : Keeps s (writeCompletes crcGood s) := by
  unfold writeCompletes
  split
  · exact .refl s
  next w hw =>
    dsimp only
    split
    · refine Keeps.trans (setControl_keeps (by rfl) fun h => ?_) (post_keeps ..)
      obtain ⟨hworking, _, hwrite⟩ := controlRising_of_tablesRising h
      exact ⟨hworking, fun p hp => by cases hp; exact hwrite w hw, by simp⟩
    · exact (endWrite_keeps s).trans (post_keeps ..)

theorem writeExpires_keeps (s : State) : Keeps s (writeExpires s) := by
  unfold writeExpires
  split
  · exact .refl s
  · split
    · exact (endWrite_keeps s).trans (post_keeps ..)
    · exact .refl s

/-! ### Every step -/

theorem resetHeld_keeps (s : State) : Keeps s (s.setControl { s.control with resetHeld := true }) :=
  setControl_keeps rfl controlRising_of_tablesRising

/-- An outcome that is a next state with every law kept. -/
def OutcomeKeeps (s : State) (o : Host.Outcome State Fault Refusal) : Prop := ∃ t, o = .next t ∧ StepKeeps s t

theorem Keeps.outcome (h : Keeps s t) : OutcomeKeeps s (.next t) := ⟨t, rfl, h.stepKeeps⟩

theorem StepKeeps.outcome (h : StepKeeps s t) : OutcomeKeeps s (.next t) := ⟨t, rfl, h⟩

theorem settled_keeps {f : State → State} (h : ∀ s, Keeps s (f s)) (s : State) :
    Keeps s (whenRunning (fun s => settle s (f s)) s) :=
  whenRunning_keeps (fun s => (h s).trans (settle_keeps ..)) s

/-- A row of a timer that acts where the timer is due. -/
theorem due_keeps {f : State → State} {c : State → Bool} (h : ∀ s, Keeps s (f s)) (s : State) :
    Keeps s (whenRunning (fun s => if c s then settle s (f s) else s) s) := by
  refine whenRunning_keeps (fun s => ?_) s
  split
  · exact (h s).trans (settle_keeps ..)
  · exact .refl s

theorem unless_held_stepKeeps {f : State → State} (h : ∀ s, StepKeeps s (f s)) (s : State) :
    StepKeeps s (if s.control.resetHeld then s else f s) := by
  split
  · exact .refl s
  · exact h s

theorem exec_keeps (i : Instr) (s : State) : OutcomeKeeps s (exec i s) := by
  cases hentry : i.entry with
  | some x => exact exec_entry i x.1 x.2 s hentry ▸ (receive_stepKeeps x.1 x.2 s).outcome
  | none =>
    cases i with
    | selFall st => exact (selFalls_stepKeeps st s).outcome
    | commandFrameReceived st bytes => exact (unless_held_stepKeeps (frameBytes_stepKeeps st bytes) s).outcome
    | responseFrameReadOut st => exact (unless_held_stepKeeps (readOutDone_stepKeeps st) s).outcome
    | selRise st bytes =>
      refine StepKeeps.outcome ?_
      split
      · exact setTransaction_stepKeeps ..
      · exact selRises_stepKeeps st bytes s
    | rampInputChange pair side high => exact (rampInput_keeps pair side high s).outcome
    | settleTimerExpiry pair => exact (settled_keeps (settleExpire_keeps pair) s).outcome
    | censusMinuteTimerExpiry => exact (due_keeps censusMinute_keeps s).outcome
    | censusStartTimerExpiry => exact (due_keeps startCensus_keeps s).outcome
    | driftTimerExpiry level => exact (whenRunning_keeps (driftExpire_keeps level) s).outcome
    | fieldRequestSent => exact (whenRunning_keeps requestSent_keeps s).outcome
    | fieldReplyReceived chars => exact (whenRunning_keeps (replyCharacters_keeps chars) s).outcome
    | fieldReplyCharacterReceived char => exact (whenRunning_keeps (replyCharacters_keeps [char]) s).outcome
    | replyTimerExpiry => exact (whenRunning_keeps replyExpires_keeps s).outcome
    | drainEnd => exact (whenRunning_keeps drainEnds_keeps s).outcome
    | waitTimerExpiry ticket => exact (whenRunning_keeps (waitExpire_keeps ticket) s).outcome
    | holdExpiry ticket => exact (settled_keeps (holdExpire_keeps ticket) s).outcome
    | lightTimerExpiry row => exact (whenRunning_keeps (lightExpire_keeps row) s).outcome
    | riseTimerExpiry row => exact (whenRunning_keeps (riseExpire_keeps row) s).outcome
    | fadeTimerExpiry row => exact (whenRunning_keeps (fadeExpire_keeps row) s).outcome
    | airMinuteTimerExpiry => exact (due_keeps airMinute_keeps s).outcome
    | dwellTimerExpiry zone => exact (settled_keeps (dwellExpire_keeps zone) s).outcome
    | overrideTimerExpiry zone => exact (settled_keeps (overrideExpire_keeps zone) s).outcome
    | accelerationTimerExpiry ch => exact (whenRunning_keeps (accelerationExpire_keeps ch) s).outcome
    | decelerationTimerExpiry ch => exact (whenRunning_keeps (decelerationExpire_keeps ch) s).outcome
    | reverseDwellExpiry ch => exact (whenRunning_keeps (reverseDwellExpire_keeps ch) s).outcome
    | fanFaultInputAsserted ch =>
      exact ((setPins_keeps _ s).trans (whenRunning_keeps (faultAsserted_keeps ch) _)).outcome
    | fanFaultInputReleased ch => exact (setPins_keeps _ s).outcome
    | shedChange asserted =>
      exact ((setPins_keeps _ s).trans (whenRunning_keeps (fun t => settle_keeps _ t) _)).outcome
    | profileWriteCompletion crcGood => exact (whenRunning_keeps (writeCompletes_keeps crcGood) s).outcome
    | profileWriteTimerExpiry => exact (whenRunning_keeps writeExpires_keeps s).outcome
    | powerOn strapHigh =>
      have hstrap : Keeps s (s.setControl { s.control with strapHigh := strapHigh }) :=
        setControl_keeps rfl controlRising_of_tablesRising
      exact (hstrap.trans (fullRestart_keeps ..)).outcome
    | resetNAsserted => exact (resetHeld_keeps s).outcome
    | resetNReleased =>
      refine Keeps.outcome ?_
      split
      · exact fullRestart_keeps ..
      · exact .refl s
    | deckTimeTick =>
      exact (whenRunning_keeps (f := fun s => { s with deckTime := s.deckTime + 1#32 })
        (fun s => Calm.keeps { Calm.refl s with }) s).outcome
    | _ => cases hentry

/-- A step carries out a command on a state that differs in the queue of commands alone, or idles. -/
theorem step_eq {o : Host.Outcome State Fault Refusal} (h : step s = o) :
    o = .next s ∨ ∃ c rest, o = exec c (s.withPending rest) := by
  unfold step at h
  split at h
  · exact .inl h.symm
  · exact .inr ⟨_, _, h.symm⟩

/-- A law of states that reads no command waiting, and that every command keeps, is kept by every step. -/
theorem step_induction {P : State → Prop} (hpending : ∀ s q, P s → P (s.withPending q))
    (hexec : ∀ i s t, exec i s = .next t → P s → P t) (hs : P s) (h : step s = .next t) : P t := by
  rcases step_eq h with heq | ⟨c, rest, heq⟩
  · cases heq; exact hs
  · exact hexec c _ t heq.symm (hpending s rest hs)

theorem exec_stepKeeps {i : Instr} (h : exec i s = .next t) : StepKeeps s t := by
  obtain ⟨u, hu, hkeeps⟩ := exec_keeps i s
  cases h.symm.trans hu
  exact hkeeps

/-! ### The obligations -/

/-- Settles O2: each row answers a next state, and the queue of commands is a part of the state that no block writes. -/
theorem everyCommandRuns : Obligations.EveryCommandRuns := by
  unfold Obligations.EveryCommandRuns
  intro i s
  obtain ⟨t, ht, hkeeps⟩ := exec_keeps i s
  exact ⟨t, ht, hkeeps.pending⟩

/-- Settles O3, from the bounds of ports, queue and hold list kept by every command. -/
theorem boundsKeptByStep : Obligations.BoundsKeptByStep := by
  unfold Obligations.BoundsKeptByStep
  intro s t hs h
  refine step_induction (P := fun s => Bounded s = true) (fun _ _ => id) (fun i s t hi hb => ?_) hs h
  have hkeeps := exec_stepKeeps hi
  rw [bounded_iff] at hb ⊢
  obtain ⟨hports, hqueue, hholds⟩ := hb
  exact ⟨hkeeps.ports hports, hkeeps.queue hqueue, hkeeps.holds hholds⟩

/-- Settles O4: each table is written by `put`, `erase`, `modify` or `mapRecords` alone. -/
theorem tablesKeptByStep : Obligations.TablesKeptByStep := by
  unfold Obligations.TablesKeptByStep
  intro s t h
  exact ⟨fun hs => step_induction (P := fun s => TablesRising s = true) (fun _ _ => id)
      (fun i s t hi => (exec_stepKeeps hi).tables) hs h,
    fun hs => step_induction (P := fun s => AddressTablesRising s = true) (fun _ _ => id)
      (fun i s t hi => (exec_stepKeeps hi).addresses) hs h⟩

/-- Settles O5, from the change of each fan at rest. -/
theorem restingFansKeptByStep : Obligations.RestingFansKeptByStep := by
  unfold Obligations.RestingFansKeptByStep
  intro s t hs h
  exact step_induction (P := fun s => FansAtRest s = true) (fun _ _ => id)
    (fun i s t hi => (exec_stepKeeps hi).atRest) hs h

/-- Settles O6, with bounds, rising tables and matched holds kept together. -/
theorem holdsKeptByStep : Obligations.HoldsKeptByStep := by
  unfold Obligations.HoldsKeptByStep
  intro s t hb ht hm h
  refine (step_induction (P := fun s => GuidanceFits s ∧ TablesRising s = true ∧ HoldsMatch s = true) (fun _ _ => id)
    (fun i s t hi ⟨hb, ht, hm⟩ => ?_) ⟨(bounded_iff.1 hb).2, ht, hm⟩ h).2.2
  have hkeeps := exec_stepKeeps hi
  exact ⟨hkeeps.guidanceFits hb, hkeeps.tables ht, hkeeps.matched hb ht hm⟩

end Sys2Proof.Machine
end

section
/-! What the steps of the loads leave of them: everything but commanded level or speed, grant and step state. -/

namespace Sys2Proof.Machine
variable {s t u : State}

/-! ### What stands of a load -/

/-- What of a row no grant and no step changes. -/
def Row.standing (r : Row) : RowCfg × Nat × Option Time := (r.cfg, r.requested, r.lightTimer)

/-- What of a fan no grant and no step changes. -/
def Fan.standing (f : Fan) : FanCfg × Nat × Nat × Nat × Direction × Bool :=
  (f.cfg, f.request, f.floor, f.cls, f.direction, f.isLoad)

/-- What stands of the rows in force. -/
def State.rowStandings (s : State) : Table (RowCfg × Nat × Option Time) := s.rows.mapRecords fun _ r => r.standing

/-- What stands of the fans in force. -/
def State.fanStandings (s : State) : Table (FanCfg × Nat × Nat × Nat × Direction × Bool) :=
  s.fans.mapRecords fun _ f => f.standing

/-- The grants the loads hold. -/
def State.rowGrants (s : State) : Table Nat := s.rows.mapRecords fun _ r => r.granted

def State.fanGrants (s : State) : Table Nat := s.fans.mapRecords fun _ f => f.granted

/-- A change of commanded values, grants and step states of loads, and of what a computation records. -/
structure LoadsStand (s t : State) : Prop where
  within : Within [.rows, .fans, .supply] s t
  rows : t.rowStandings = s.rowStandings
  fans : t.fanStandings = s.fanStandings
  normal : t.supply.normal = s.supply.normal
  shed : t.supply.shed = s.supply.shed

/-- The same with every grant as it was. -/
structure GrantsStand (s t : State) : Prop extends LoadsStand s t where
  rowGrants : t.rowGrants = s.rowGrants
  fanGrants : t.fanGrants = s.fanGrants
  supply : t.supply = s.supply

theorem LoadsStand.refl (s : State) : LoadsStand s s := ⟨.refl _ s, rfl, rfl, rfl, rfl⟩

theorem LoadsStand.trans (h : LoadsStand s t) (k : LoadsStand t u) : LoadsStand s u :=
  ⟨h.within.trans k.within, k.rows.trans h.rows, k.fans.trans h.fans, k.normal.trans h.normal, k.shed.trans h.shed⟩

theorem GrantsStand.refl (s : State) : GrantsStand s s := ⟨.refl s, rfl, rfl, rfl⟩

theorem GrantsStand.trans (h : GrantsStand s t) (k : GrantsStand t u) : GrantsStand s u :=
  ⟨h.toLoadsStand.trans k.toLoadsStand, k.rowGrants.trans h.rowGrants, k.fanGrants.trans h.fanGrants,
    k.supply.trans h.supply⟩

/-! ### Single changes -/

theorem modRow_stands {n : Nat} {f : Row → Row} (h : ∀ r, s.rows.find n = some r → (f r).standing = r.standing) :
    LoadsStand s (s.modRow n f) :=
  ⟨(modRow_within n f s).mono (by decide), Table.mapRecords_modify _ f n s.rows h, rfl, rfl, rfl⟩

theorem modFan_stands {ch : Nat} {f : Fan → Fan} (h : ∀ x, s.fans.find ch = some x → (f x).standing = x.standing) :
    LoadsStand s (s.modFan ch f) :=
  ⟨(modFan_within ch f s).mono (by decide), rfl, Table.mapRecords_modify _ f ch s.fans h, rfl, rfl⟩

theorem modRow_grantsStand {n : Nat} {f : Row → Row} (h : ∀ r, s.rows.find n = some r → (f r).standing = r.standing)
    (hg : ∀ r, s.rows.find n = some r → (f r).granted = r.granted) : GrantsStand s (s.modRow n f) :=
  ⟨modRow_stands h, Table.mapRecords_modify _ f n s.rows hg, rfl, rfl⟩

theorem modFan_grantsStand {ch : Nat} {f : Fan → Fan} (h : ∀ x, s.fans.find ch = some x → (f x).standing = x.standing)
    (hg : ∀ x, s.fans.find ch = some x → (f x).granted = x.granted) : GrantsStand s (s.modFan ch f) :=
  ⟨modFan_stands h, rfl, Table.mapRecords_modify _ f ch s.fans hg, rfl⟩

theorem forEach_stands {α : Type} (f : α → State → State) (h : ∀ x s, LoadsStand s (f x s)) (l : List α) (s : State) :
    LoadsStand s (forEach l f s) :=
  forEach_rel LoadsStand LoadsStand.refl (fun _ _ _ => LoadsStand.trans) f h l s

/-- A post of events stands apart from the loads. -/
theorem LoadsStand.of_within (h : Within [] s t) : LoadsStand s t :=
  ⟨h.mono (by simp), by simp [State.rowStandings, h.rows_eq], by simp [State.fanStandings, h.fans_eq],
    by rw [h.supply_eq (by decide)], by rw [h.supply_eq (by decide)]⟩

/-! ### The steps of the loads -/

theorem rowRise_grantsStand (n : Nat) (s : State) : GrantsStand s (rowRise n s) := by
  unfold rowRise
  split
  · exact .refl s
  · dsimp only
    split
    · exact modRow_grantsStand (fun _ _ => rfl) (fun _ _ => rfl)
    · exact modRow_grantsStand (fun _ _ => rfl) (fun _ _ => rfl)

theorem Fan.isLoad_of_rises {f : Fan} (h : f.Rises) : f.isLoad = true := by
  rcases h with h | h <;> simp [Fan.isLoad, h]

/-- A fan that has taken a start or acceleration step stands as it stood. -/
theorem Fan.standing_afterRise {f : Fan} (h : f.Rises) (now : Time) (speed : Nat) :
    (f.afterRise now speed).standing = f.standing := by
  simp only [Fan.standing, Fan.isLoad_of_rises h, Fan.afterRise]
  split <;> simp [Fan.isLoad]

theorem fanRise_grantsStand {ch speed : Nat} (hup : ∀ f, s.fans.find ch = some f → f.Rises) :
    GrantsStand s (fanRise ch speed s) := by
  unfold fanRise
  split
  · exact .refl s
  · split
    · refine modFan_grantsStand (fun f hf => f.standing_afterRise (hup f hf) _ _) fun f _ => ?_
      unfold Fan.afterRise
      split <;> rfl
    · exact modFan_grantsStand (fun _ _ => rfl) (fun _ _ => rfl)

theorem fanStart_grantsStand {ch : Nat} (hup : ∀ f, s.fans.find ch = some f → f.Rises) :
    GrantsStand s (fanStart ch s) := by
  unfold fanStart
  split
  · exact fanRise_grantsStand hup
  · exact .refl s

theorem fanAccelerate_grantsStand {ch : Nat} (hup : ∀ f, s.fans.find ch = some f → f.Rises) :
    GrantsStand s (fanAccelerate ch s) := by
  unfold fanAccelerate
  split
  · exact fanRise_grantsStand hup
  · exact .refl s

theorem retryLoad_grantsStand (l : Load) (s : State) : GrantsStand s (retryLoad l s) := by
  have rises {ch : Nat} {f : Fan} (hfind : s.fans.find ch = some f) (h : f.Rises) :
      ∀ x, s.fans.find ch = some x → x.Rises := fun x hx => Option.some.inj (hfind.symm.trans hx) ▸ h
  unfold retryLoad
  split
  · exact rowRise_grantsStand _ s
  · split
    next f hfind =>
      split
      next h => exact fanStart_grantsStand (rises hfind (.inl h))
      next =>
        split
        next h => exact fanAccelerate_grantsStand (rises hfind (.inr h))
        next => exact .refl s
    next => exact .refl s

/-- A retry of the held rises gives no grant. -/
theorem retryHeld_grantsStand (s : State) : GrantsStand s (retryHeld s) :=
  forEach_rel GrantsStand GrantsStand.refl (fun _ _ _ => GrantsStand.trans) _ retryLoad_grantsStand _ s

theorem retryOnDecrease_grantsStand (before s : State) : GrantsStand s (retryOnDecrease before s) := by
  unfold retryOnDecrease
  split
  · exact retryHeld_grantsStand s
  · exact .refl s

theorem grantRow_stands (n g : Nat) (s : State) : LoadsStand s (grantRow n g s) := modRow_stands fun _ _ => rfl

theorem Fan.standing_onGrant (now : Time) (g : Nat) (f : Fan) : (f.onGrant now g).standing = f.standing := by
  cases hst : f.state with
  | stopped =>
    simp only [Fan.onGrant, hst]
    split <;> simp [Fan.standing, Fan.isLoad, hst]
  | accelerating | steady | decelerating =>
    simp only [Fan.onGrant, hst]
    split
    · simp [Fan.standing, Fan.isLoad, hst]
    · split <;> simp [Fan.standing, Fan.isLoad, hst, Fan.startDecel]
  | reversingDown | reverseDwell | faulted | isolated | held => simp [Fan.onGrant, Fan.standing, Fan.isLoad, hst]

theorem grantFan_stands (ch g : Nat) (s : State) : LoadsStand s (grantFan ch g s) := by
  cases hfind : s.fans.find ch with
  | none => simpa [grantFan, hfind] using LoadsStand.refl s
  | some f =>
    by_cases hstart : f.startsOn g
    · rw [grantFan_of_start hfind hstart]
      refine (modFan_stands fun x hx => ?_).trans (fanRise_grantsStand fun x hx => ?_).toLoadsStand
      · obtain rfl : f = x := Option.some.inj (hfind.symm.trans hx)
        rfl
      · rw [modFan_find _ hfind] at hx
        cases hx
        exact .inl hstart.1
    · rw [grantFan_of_no_start hfind hstart]
      exact modFan_stands fun x hx => by
        obtain rfl : f = x := Option.some.inj (hfind.symm.trans hx)
        exact f.standing_onGrant _ _

theorem handGrant_stands (all : Bool) (x : Load × Nat) (s : State) : LoadsStand s (handGrant all x s) := by
  unfold handGrant
  split
  · split
    · exact grantFan_stands ..
    · exact grantRow_stands ..
  · exact .refl s

theorem recordDivision_stands (d : Division) (s : State) : LoadsStand s (recordDivision d s) :=
  ⟨(recordDivision_within d s).mono (by decide), rfl, rfl, rfl, rfl⟩

theorem setShort_stands (b : Bool) (s : State) : LoadsStand s (s.setSupply { s.supply with short := b }) :=
  ⟨(setSupply_within _ s).mono (by decide), rfl, rfl, rfl, rfl⟩

theorem judgeShort_stands (s : State) : LoadsStand s (judgeShort s) := by
  unfold judgeShort
  dsimp only
  split
  · exact (setShort_stands _ s).trans (.of_within (post_within ..))
  · split
    · exact (setShort_stands _ s).trans (.of_within (post_within ..))
    · exact setShort_stands _ s

/-- A computation leaves of each load all but its grant, its commanded value and its step state. -/
theorem compute_stands (all : Bool) (s : State) : LoadsStand s (compute all s) :=
  (((recordDivision_stands _ s).trans (forEach_stands _ (handGrant_stands all) _ _)).trans
    (retryHeld_grantsStand _).toLoadsStand).trans (judgeShort_stands _)

end Sys2Proof.Machine
end

section
/-! In RUN mode every fan's request, floor and class stay those its zone gives it (R117, R126): a block whose work changes what they
are formed from ends with `settle`, which forms them anew. -/

namespace Sys2Proof.Machine
variable {s t u : State}

/-! ### What requests are formed from -/

/-- Demand and fan class of each zone: all that requests, floors and classes of fans are formed from (R117, R126). -/
def State.zoneHands (s : State) : Table (Nat × Nat) := s.zones.mapRecords fun _ z => (s.zoneDemand z, z.fanClass)

/-- What of a fan its zone gives, and its record. -/
def Fan.demands (f : Fan) : FanCfg × Nat × Nat × Nat := (f.cfg, f.request, f.floor, f.cls)

/-- A fan with the request, floor and class a zone's demand and class give. -/
def Fan.handed (f : Fan) : Option (Nat × Nat) → Fan
  | some (demand, cls) => { f with request := f.cfg.requestFor demand, floor := f.cfg.floorFor cls, cls := cls }
  | none => f

theorem formRequest_eq (s : State) (f : Fan) : s.formRequest f = f.handed (s.zoneHands.find f.cfg.zone) := by
  simp only [State.formRequest, State.zoneHands, Table.find_mapRecords]
  split
  next z hz => rw [hz]; rfl
  next hz => rw [hz]; rfl

theorem formRequest_congr (h : t.zoneHands = s.zoneHands) (f : Fan) : t.formRequest f = s.formRequest f := by
  rw [formRequest_eq, formRequest_eq, h]

theorem formRequest_idem (s : State) (f : Fan) : s.formRequest (s.formRequest f) = s.formRequest f := by
  rw [formRequest_eq s f, formRequest_eq]
  rcases hfind : s.zoneHands.find f.cfg.zone with _ | ⟨demand, cls⟩ <;> simp [Fan.handed, hfind]

theorem Fan.handed_eq_self_iff {f : Fan} {x : Option (Nat × Nat)} :
    f.handed x = f ↔ ∀ d c, x = some (d, c) → f.request = f.cfg.requestFor d ∧ f.floor = f.cfg.floorFor c ∧ f.cls = c := by
  rcases x with _ | ⟨d, c⟩
  · simp [Fan.handed]
  · cases f
    simp only [Fan.handed, Fan.mk.injEq, Option.some.injEq, Prod.mk.injEq, true_and, and_true, and_imp]
    constructor
    · rintro ⟨rfl, rfl, rfl⟩ d' c' rfl rfl
      exact ⟨rfl, rfl, rfl⟩
    · intro h
      obtain ⟨hr, hf, hc⟩ := h d c rfl rfl
      exact ⟨hr.symm, hf.symm, hc.symm⟩

theorem formRequest_eq_self_iff {f g : Fan} (h : g.demands = f.demands) : s.formRequest g = g ↔ s.formRequest f = f := by
  obtain ⟨hcfg, hrequest, hfloor, hcls⟩ : g.cfg = f.cfg ∧ g.request = f.request ∧ g.floor = f.floor ∧ g.cls = f.cls := by
    simpa [Fan.demands] using h
  rw [formRequest_eq, formRequest_eq, Fan.handed_eq_self_iff, Fan.handed_eq_self_iff, hcfg, hrequest, hfloor, hcls]

theorem Table.mapRecords_eq_self_iff {α : Type} {t : Table α} {f : Nat → α → α} :
    t.mapRecords f = t ↔ ∀ p ∈ t, f p.1 p.2 = p.2 := by
  induction t with
  | nil => simp [Table.mapRecords]
  | cons p rest ih =>
    obtain ⟨i, x⟩ := p
    rw [List.forall_mem_cons, ← ih]
    simp [Table.mapRecords]

theorem handDemands_eq_self_iff : handDemands s = s ↔ ∀ p ∈ s.fans, s.formRequest p.2 = p.2 := by
  rw [← Table.mapRecords_eq_self_iff (f := fun _ f => s.formRequest f)]
  refine ⟨fun h => congrArg State.fans h, fun h => ?_⟩
  unfold handDemands
  rw [h]

theorem demandsHanded_iff : DemandsHanded s = true ↔ (s.inRun = true → ∀ p ∈ s.fans, s.formRequest p.2 = p.2) := by
  rw [← handDemands_eq_self_iff]
  cases hrun : s.inRun <;> simp [DemandsHanded, hrun]

/-! ### Work that leaves requests as they stand -/

/-- A change of neither demands and classes of zones nor requests, floors and classes of fans. -/
structure SameDemands (s t : State) : Prop where
  inRun : t.inRun = s.inRun
  hands : t.zoneHands = s.zoneHands
  fans : t.fans.mapRecords (fun _ f => f.demands) = s.fans.mapRecords fun _ f => f.demands

/-- What a block's work keeps: demands handed before it stand handed after it. -/
structure Hands (s t : State) : Prop where
  kept : DemandsHanded s = true → DemandsHanded t = true

theorem Hands.refl (s : State) : Hands s s := ⟨id⟩

theorem Hands.trans (h : Hands s t) (k : Hands t u) : Hands s u := ⟨k.kept ∘ h.kept⟩

theorem Hands.of_handed (h : DemandsHanded t = true) : Hands s t := ⟨fun _ => h⟩

theorem SameDemands.refl (s : State) : SameDemands s s := ⟨rfl, rfl, rfl⟩

theorem SameDemands.trans (h : SameDemands s t) (k : SameDemands t u) : SameDemands s u :=
  ⟨k.inRun.trans h.inRun, k.hands.trans h.hands, k.fans.trans h.fans⟩

theorem Table.exists_mem_of_mapRecords_eq {α β : Type} {t u : Table α} {g : α → β}
    (h : t.mapRecords (fun _ x => g x) = u.mapRecords fun _ x => g x) {q : Nat × α} (hq : q ∈ t) :
    ∃ p ∈ u, g q.2 = g p.2 := by
  have hmem : (q.1, g q.2) ∈ u.mapRecords fun _ x => g x := h ▸ List.mem_map.2 ⟨q, hq, rfl⟩
  obtain ⟨p, hp, heq⟩ := List.mem_map.1 hmem
  exact ⟨p, hp, (Prod.mk.inj heq).2.symm⟩

theorem SameDemands.handed (h : SameDemands s t) : Hands s t := by
  constructor
  rw [demandsHanded_iff, demandsHanded_iff, h.inRun]
  intro hs hrun q hq
  obtain ⟨p, hp, heq⟩ := Table.exists_mem_of_mapRecords_eq h.fans hq
  rw [formRequest_congr h.hands, formRequest_eq_self_iff heq]
  exact hs hrun p hp

theorem forEach_same_demands {α : Type} (f : α → State → State) (h : ∀ x s, SameDemands s (f x s)) (l : List α) (s : State) :
    SameDemands s (forEach l f s) :=
  forEach_rel SameDemands SameDemands.refl (fun _ _ _ => SameDemands.trans) f h l s

/-- The fan records, levels' indices and zones from which demands are formed, read of two states the same. -/
theorem zoneHands_congr (hz : t.zones = s.zones) (hst : t.stageTable = s.stageTable)
    (ht : ∀ level, t.trafficDemand level = s.trafficDemand level) : t.zoneHands = s.zoneHands := by
  simp only [State.zoneHands, State.zoneDemand, hz, hst, ht]

theorem presentCount_congr (hb : t.bays = s.bays) (hr : ∀ n, t.rowLevel n = s.rowLevel n) (level : Nat) :
    t.presentCount level = s.presentCount level := by
  simp only [State.presentCount, hb, hr]

theorem trafficDemand_congr (hl : t.levels = s.levels) (hp : ∀ level, t.presentCount level = s.presentCount level)
    (level : Nat) : t.trafficDemand level = s.trafficDemand level := by
  simp only [State.trafficDemand, State.trafficIndex, hl, hp]

theorem rowLevel_congr (h : t.rows.mapRecords (fun _ r => r.cfg.level) = s.rows.mapRecords fun _ r => r.cfg.level) (n : Nat) :
    t.rowLevel n = s.rowLevel n := by
  have hfind := congrArg (Table.find · n) h
  simp only [Table.find_mapRecords] at hfind
  unfold State.rowLevel
  revert hfind
  cases t.rows.find n <;> cases s.rows.find n <;> simp

/-- Work on parts from which no demand is formed, rows and fans but in their demands. -/
theorem SameDemands.of_within {parts : List Part} (h : Within parts s t)
    (hparts : ∀ p ∈ parts, p ∉ [Part.control, .bays, .levels, .zones, .settings])
    (hrows : t.rows.mapRecords (fun _ r => r.cfg.level) = s.rows.mapRecords fun _ r => r.cfg.level)
    (hfans : t.fans.mapRecords (fun _ f => f.demands) = s.fans.mapRecords fun _ f => f.demands) : SameDemands s t where
  inRun := inRun_of_control (h.control_eq fun hp => hparts _ hp (by decide))
  hands :=
    zoneHands_congr (h.zones_eq fun hp => hparts _ hp (by decide)) (h.stageTable_eq fun hp => hparts _ hp (by decide))
      (trafficDemand_congr (h.levels_eq fun hp => hparts _ hp (by decide))
        (presentCount_congr (h.bays_eq fun hp => hparts _ hp (by decide)) (rowLevel_congr hrows)))
  fans := hfans

theorem SameDemands.of_apart {parts : List Part} (h : Within parts s t)
    (hparts : ∀ p ∈ parts, p ∉ [Part.control, .bays, .levels, .zones, .settings, .rows, .fans]) : SameDemands s t :=
  .of_within h (fun p hp hmem => hparts p hp (by revert hmem; cases p <;> decide))
    (by rw [h.rows_eq fun hp => hparts _ hp (by decide)]) (by rw [h.fans_eq fun hp => hparts _ hp (by decide)])

/-- The steps of the loads leave their demands. -/
theorem LoadsStand.same_demands (h : LoadsStand s t) : SameDemands s t := by
  refine .of_within h.within (by decide) ?_ ?_
  · have := congrArg (Table.mapRecords fun _ (x : RowCfg × Nat × Option Time) => x.1.level) h.rows
    simp only [State.rowStandings, Table.mapRecords_mapRecords, Row.standing] at this
    exact this
  · have := congrArg (Table.mapRecords fun _ (x : FanCfg × Nat × Nat × Nat × Direction × Bool) =>
      (x.1, x.2.1, x.2.2.1, x.2.2.2.1)) h.fans
    simp only [State.fanStandings, Table.mapRecords_mapRecords, Fan.standing] at this
    exact this

theorem modFan_same_demands {ch : Nat} {f : Fan → Fan} (h : ∀ x, s.fans.find ch = some x → (f x).demands = x.demands) :
    SameDemands s (s.modFan ch f) :=
  .of_within (modFan_within ch f s) (by decide) rfl (Table.mapRecords_modify _ f ch s.fans h)

theorem post_same_demands (kind : EventKind) (subject a b : Nat) (s : State) : SameDemands s (post kind subject a b s) :=
  .of_apart (post_within ..) (by decide)

theorem fanToFault_same_demands (ch : Nat) (s : State) : SameDemands s (fanToFault ch s) := by
  unfold fanToFault
  split
  · exact .refl s
  · exact (modFan_same_demands (f := fun f => f.withdrawn .faulted) fun _ _ => rfl).trans (post_same_demands ..)

theorem beginReversal_same_demands (ch : Nat) (s : State) : SameDemands s (beginReversal ch s) := by
  unfold beginReversal
  split
  · exact .refl s
  · split
    · split
      · exact modFan_same_demands fun _ _ => rfl
      · exact modFan_same_demands fun _ _ => rfl
    · exact .refl s

/-! ### The end of an event -/

theorem handDemands_handed (s : State) : DemandsHanded (handDemands s) = true := by
  rw [demandsHanded_iff]
  intro _ q hq
  obtain ⟨p, _, rfl⟩ := List.mem_map.1 hq
  exact (formRequest_congr rfl _).trans (formRequest_idem s p.2)

theorem settle_handed (before s : State) : DemandsHanded (settle before s) = true := by
  unfold settle
  split
  · dsimp only
    split
    · exact (compute_stands false _).same_demands.handed.kept (handDemands_handed s)
    · exact handDemands_handed s
  next hrun => simp [DemandsHanded, hrun]

theorem config_handed (h : s.inRun = false) : DemandsHanded s = true := by simp [DemandsHanded, h]

end Sys2Proof.Machine
end

section
/-! Every step keeps the demands handed (R117, R126), and with it O7. -/

namespace Sys2Proof.Machine
variable {s t u : State}

/-! ### Bays, levels, ports and settings that no demand is formed from -/

theorem modBay_same_demands {n : Nat} {f : Bay → Bay}
    (h : ∀ b, s.bays.find n = some b → ((f b).sensed, (f b).cfg.row) = (b.sensed, b.cfg.row)) :
    SameDemands s (s.modBay n f) := by
  have hpresent (level : Nat) : (s.modBay n f).presentCount level = s.presentCount level := by
    have hcount (v : State) : v.presentCount level =
        (v.bays.mapRecords fun _ b => (b.sensed, b.cfg.row)).countP fun p =>
          decide (p.2.1 = .present) && decide (v.rowLevel p.2.2 = level) := by
      unfold State.presentCount Table.mapRecords
      rw [List.countP_map]
      rfl
    rw [hcount, hcount, show (s.modBay n f).bays = s.bays.modify n f from rfl, Table.mapRecords_modify _ f n s.bays h]
    rfl
  exact ⟨rfl, zoneHands_congr rfl rfl (trafficDemand_congr rfl hpresent), rfl⟩

theorem modBaysOf_same_demands {node : Nat} {f : Bay → Bay} (h : ∀ b, ((f b).sensed, (f b).cfg.row) = (b.sensed, b.cfg.row))
    (s : State) : SameDemands s (modBaysOf node f s) := by
  have hpresent (level : Nat) : (modBaysOf node f s).presentCount level = s.presentCount level := by
    unfold State.presentCount modBaysOf Table.mapRecords
    rw [List.countP_map]
    refine List.countP_congr fun p _ => ?_
    have hrow : ((if p.2.cfg.node = node then f p.2 else p.2).sensed,
        (if p.2.cfg.node = node then f p.2 else p.2).cfg.row) = (p.2.sensed, p.2.cfg.row) := by
      split
      · exact h p.2
      · rfl
    obtain ⟨hsensed, hcfg⟩ := Prod.mk.inj hrow
    simp only [Function.comp, hsensed, hcfg]
    rfl
  exact ⟨rfl, zoneHands_congr rfl rfl (trafficDemand_congr rfl hpresent), rfl⟩

theorem modLevel_same_demands {n : Nat} {f : Level → Level}
    (h : ∀ l, s.levels.find n = some l → ((f l).cfg, (f l).count, (f l).ring) = (l.cfg, l.count, l.ring)) :
    SameDemands s (s.modLevel n f) := by
  have hlevels : ∀ level, (s.modLevel n f).trafficDemand level = s.trafficDemand level := by
    intro level
    have hview (v : State) : v.trafficDemand level =
        match (v.levels.mapRecords fun _ l => (l.cfg, l.count, l.ring)).find level with
        | some x => maxOf (x.1.traffic.map (rangeDemand (min 65535 (sumOf id x.2.2 + x.1.weight * (x.2.1 - v.presentCount level)))))
        | none => 0 := by
      rw [Table.find_mapRecords]
      unfold State.trafficDemand State.trafficIndex
      cases v.levels.find level <;> rfl
    rw [hview, hview, show (s.modLevel n f).levels = s.levels.modify n f from rfl, Table.mapRecords_modify _ f n s.levels h]
    rfl
  exact ⟨rfl, zoneHands_congr rfl rfl hlevels, rfl⟩

theorem modZone_pattern_same_demands (n : Nat) (p : Pattern) (s : State) :
    SameDemands s (s.modZone n fun z => { z with pattern := p }) :=
  ⟨rfl, Table.mapRecords_modify (fun _ z => (s.zoneDemand z, z.fanClass)) _ n s.zones fun _ _ => rfl, rfl⟩

theorem setControl_same_demands {c : Control} (h : c.mode = s.control.mode) : SameDemands s (s.setControl c) :=
  ⟨by simp [State.inRun, State.setControl, h], rfl, rfl⟩

theorem setPort_same_demands (st : Station) (p : Port) (s : State) : SameDemands s (s.setPort st p) := by
  cases st <;> exact ⟨rfl, rfl, rfl⟩

theorem setGuidance_same_demands (g : Guidance) (s : State) : SameDemands s (s.setGuidance g) := ⟨rfl, rfl, rfl⟩

theorem setLoop_same_demands (l : FieldLoop) (s : State) : SameDemands s (s.setLoop l) := ⟨rfl, rfl, rfl⟩

theorem postTo_same_demands (st : Station) (kind : EventKind) (subject a b : Nat) (s : State) :
    SameDemands s (postTo st kind subject a b s) := .of_apart (postTo_within ..) (by decide)

theorem levelCheck_same_demands (before : State) (level : Nat) (s : State) : SameDemands s (levelCheck before level s) :=
  .of_apart (levelCheck_within ..) (by decide)

theorem setAdmin_same_demands (bay : Nat) (a : Admin) (s : State) : SameDemands s (setAdmin bay a s) := by
  cases hfind : s.bays.find bay with
  | none => rw [setAdmin_of_not_find hfind]; exact .refl s
  | some b =>
    rw [setAdmin_of_find hfind]
    exact (modBay_same_demands (f := fun b => { b with admin := a }) fun _ _ => by rfl).trans (levelCheck_same_demands ..)

theorem startTransaction_same_demands (s : State) : SameDemands s (startTransaction s) :=
  .of_apart (startTransaction_within s) (by decide)

/-! ### Restarts and modes -/

theorem startRunning_handed (s : State) : DemandsHanded (startRunning s) = true := by
  refine (startTransaction_same_demands _).handed.kept ((compute_stands true _).same_demands.handed.kept ?_)
  exact (forEach_same_demands _ fanToFault_same_demands _ _).handed.kept (handDemands_handed s)

theorem fullRestart_handed (cause : RestartCause) (s : State) : DemandsHanded (fullRestart cause s) = true := by
  unfold fullRestart
  dsimp only
  split
  · split
    · exact startRunning_handed _
    next h => exact config_handed (by simpa using h)
  · split
    · exact startRunning_handed _
    next h => exact config_handed (by simpa using h)

theorem softRestart_hands (s : State) : Hands s (softRestart s) := by
  have hports : SameDemands s { s.setControl { s.control with cause := .softCommand } with ports := emptyPorts s.ports } :=
    ⟨rfl, rfl, rfl⟩
  exact ((hports.trans (.of_apart (postRestarted_within ..) (by decide))).trans (setLoop_same_demands ..)).handed

theorem takeConfiguration_handed (c : Configuration) (s : State) : DemandsHanded (takeConfiguration c s) = true := by
  refine (post_same_demands ..).handed.kept ?_
  refine (SameDemands.of_apart (commitLoop_within ..) (by decide)).handed.kept ?_
  refine (SameDemands.of_apart (commitBands_within _) (by decide)).handed.kept ?_
  refine (compute_stands true _).same_demands.handed.kept ?_
  exact (forEach_same_demands _ beginReversal_same_demands _ _).handed.kept (handDemands_handed _)

theorem enterConfig_config (s : State) : (enterConfig s).inRun = false := by
  rw [enterConfig_eq]
  refine (inRun_of_control ((post_within ..).control_eq (by decide))).trans ?_
  exact inRun_of_control ((emptyGuidance_within (configEntered s)).control_eq (by decide))

/-! ### Commands -/

theorem hands_checked {k : Effect} {checks : List (Bool × Status)} (h : (∀ c ∈ checks, c.1 = false) → Hands s k.1) :
    Hands s (checked s checks k).1 := by
  unfold checked
  split
  · exact .refl s
  next hnone => exact h fun c hc => by simpa using List.find?_eq_none.1 hnone c hc

/-- A command taken in CONFIG mode alone, which leaves the mode. -/
theorem hands_of_config (hrun : s.inRun = false) (h : t.inRun = s.inRun) : Hands s t := .of_handed (config_handed (h.trans hrun))

theorem configCheck {rest : List (Bool × Status)} (h : ∀ c ∈ (s.inRun, Status.refusedMode) :: rest, c.1 = false) :
    s.inRun = false := h _ List.mem_cons_self

theorem fanReturn_hands (ch : Nat) (s : State) : Hands s (fanReturn ch s) := by
  unfold fanReturn
  split
  · exact .of_handed (settle_handed ..)
  next h => exact hands_of_config (by simpa using h) rfl

theorem closeBay_hands (bay : Nat) (b : Bay) (s : State) : Hands s (closeBay bay b s).1 := by
  have hset := (setAdmin_same_demands bay .closed s).handed
  unfold closeBay
  split
  · split
    · exact .of_handed (settle_handed ..)
    · exact hset
  · exact hset
  · exact hset
  · exact .refl s

theorem evaluateZones_inRun (l : List Nat) (s : State) : (forEach l evaluateZone s).inRun = s.inRun :=
  inRun_of_control ((forEach_within _ evaluateZone_within l s).control_eq (by decide))

theorem setPattern_same_demands (zone : Nat) (p : Pattern) (s : State) : SameDemands s (setPattern zone p s) :=
  (modZone_pattern_same_demands zone p s).trans (forEach_same_demands _ beginReversal_same_demands _ _)

theorem doRestart_hands (operand : Nat) (s : State) : Hands s (doRestart operand s).1 := by
  unfold doRestart
  split
  · exact .of_handed (fullRestart_handed ..)
  · split
    · exact hands_checked fun _ => softRestart_hands s
    · exact .refl s

theorem execute_hands (st : Station) (c : Command) (s : State) : Hands s (execute st c s).1 := by
  cases c with
  | readStatus => exact (setPort_same_demands ..).handed
  | readEvents count => exact hands_checked fun _ => (setPort_same_demands ..).handed
  | setEventMask mask => exact hands_checked fun _ => (setPort_same_demands ..).handed
  | readRecord kind number part =>
    refine hands_checked fun _ => ?_
    split <;> exact .refl s
  | readQueue page => exact .refl s
  | readHolds page => exact .refl s
  | readLoads page =>
    unfold execute doReadLoads
    dsimp only
    split <;> exact .refl s
  | enterConfig => exact hands_checked fun _ => .of_handed (config_handed (enterConfig_config s))
  | commit =>
    refine hands_checked fun _ => ?_
    split
    · exact .refl s
    · exact .of_handed (takeConfiguration_handed ..)
  | storeProfile => exact hands_checked fun _ => (setControl_same_demands (by rfl)).handed
  | restart operand => exact doRestart_hands operand s
  | define kind number fields =>
    refine hands_checked fun h => ?_
    split
    · exact hands_of_config (configCheck h) rfl
    · exact .refl s
  | delete kind number =>
    refine hands_checked fun h => ?_
    split
    · refine hands_of_config (configCheck h) ?_
      unfold stopDeletedFan
      split <;> rfl
    · exact .refl s
  | setPollList position entries => exact hands_checked fun h => hands_of_config (configCheck h) rfl
  | setClassTable entries =>
    exact hands_checked fun h => hands_of_config (configCheck h)
      (inRun_of_control ((allocationPass_within _).control_eq (by decide)))
  | setPenalty penalties =>
    exact hands_checked fun h => hands_of_config (configCheck h)
      (inRun_of_control ((allocationPass_within _).control_eq (by decide)))
  | setAllowance normal shed => exact hands_checked fun _ => .of_handed (settle_handed ..)
  | setStageTable stages hysteresis dwell =>
    exact hands_checked fun h => hands_of_config (configCheck h) (evaluateZones_inRun _ _)
  | setTrafficTable level slots => exact hands_checked fun _ => .of_handed (settle_handed ..)
  | ventOverride zone demand duration =>
    refine hands_checked fun _ => ?_
    split
    · exact .of_handed (settle_handed ..)
    · exact .of_handed (settle_handed ..)
  | setFlowPattern zone pattern =>
    refine hands_checked fun _ => ?_
    split
    · exact .refl s
    · exact (setPattern_same_demands ..).handed
  | clearFan channel =>
    refine hands_checked fun _ => ?_
    split
    · exact .refl s
    · dsimp only
      split
      · exact fanReturn_hands ..
      · exact .refl s
  | isolateFan channel =>
    refine hands_checked fun _ => ?_
    split
    · exact .refl s
    · split
      · exact .refl s
      · exact .of_handed (settle_handed ..)
  | restoreFan channel =>
    refine hands_checked fun _ => ?_
    split
    · exact .refl s
    · split
      · split
        · exact (fanToFault_same_demands ..).handed
        · exact fanReturn_hands ..
      · exact .refl s
  | manualFan channel speed =>
    refine hands_checked fun h => ?_
    split
    · exact .refl s
    · split
      · exact hands_of_config (configCheck h) rfl
      · exact .refl s
  | census level =>
    refine hands_checked fun _ => ?_
    split
    · exact .refl s
    · exact .of_handed (settle_handed ..)
  | setLightLevels row base active hold fade => exact hands_checked fun _ => .of_handed (settle_handed ..)
  | setGuidanceTimes maxWait holdTime substitution => exact hands_checked fun _ => (setGuidance_same_demands ..).handed
  | requestBay cls lane priority => exact hands_checked fun _ => .of_handed (settle_handed ..)
  | withdraw ticket =>
    refine hands_checked fun _ => ?_
    have hremoved (t : Nat) : SameDemands s (removeRequest t s) := setGuidance_same_demands ..
    split
    · dsimp only
      split
      · exact (hremoved _).handed
      · exact ((hremoved _).trans (postTo_same_demands ..)).handed
    · split <;> exact .refl s
  | withdrawNewest =>
    unfold execute doWithdrawNewest
    dsimp only
    split
    · exact (setGuidance_same_demands ..).handed
    · exact .refl s
  | cancelHold ticket =>
    refine hands_checked fun _ => ?_
    split
    · exact .of_handed (settle_handed ..)
    · split <;> exact .refl s
  | queueCount => exact .refl s
  | claimBay bay expected =>
    refine hands_checked fun _ => ?_
    split
    · exact .refl s
    · split
      · exact (setAdmin_same_demands ..).handed
      · exact .refl s
  | releaseClaim bay =>
    refine hands_checked fun _ => ?_
    split
    · exact .refl s
    · split
      · exact .of_handed (settle_handed ..)
      all_goals exact .refl s
  | closeBay bay =>
    refine hands_checked fun _ => ?_
    split
    · exact .refl s
    · exact closeBay_hands ..
  | openBay bay =>
    refine hands_checked fun _ => ?_
    split
    · exact .refl s
    · split
      · exact .of_handed (settle_handed ..)
      · exact .refl s

/-! ### Ports -/

theorem judgeEntry_hands (st : Station) (e : Entry) (s : State) : Hands s (judgeEntry st e s).1 := by
  cases e with
  | badFrame tag => exact .refl s
  | unknown tag code => exact .refl s
  | misfit tag code => exact hands_checked fun _ => .refl s
  | command tag c => exact hands_checked fun _ => execute_hands st c s

theorem takeEntries_hands (st : Station) (fuel : Nat) (s : State) : Hands s (takeEntries st fuel s) := by
  induction fuel generalizing s with
  | zero => exact .refl s
  | succ fuel ih =>
    rw [takeEntries]
    split
    · exact .refl s
    next e rest _ =>
      split
      · refine Hands.trans ?_ (ih _)
        have hjudged : Hands s (judgeEntry st e (s.setPort st { s.port st with commands := rest })).1 :=
          (setPort_same_demands ..).handed.trans (judgeEntry_hands ..)
        rw [takeEntry]
        rcases placeResponses_port st e (s.port st).overrun
          (judgeEntry st e (s.setPort st { s.port st with commands := rest })) with heq | heq <;> rw [heq]
        · exact hjudged
        · exact hjudged.trans (setPort_same_demands ..).handed
      · exact .refl s

theorem arrive_hands (st : Station) (e : Entry) (s : State) : Hands s (arrive st e s) := by
  unfold arrive
  dsimp only
  split
  · exact (setPort_same_demands ..).handed.trans (takeEntries_hands ..)
  · exact (setPort_same_demands ..).handed

theorem receive_hands (st : Station) (e : Entry) (s : State) : Hands s (receive st e s) := by
  unfold receive
  split
  · exact .refl s
  · exact arrive_hands st e s

theorem selFalls_hands (st : Station) (s : State) : Hands s (selFalls st s) := by
  unfold selFalls
  dsimp only
  split
  · split
    · exact (setPort_same_demands ..).handed
    · exact (setPort_same_demands ..).handed
  · exact .refl s
  · exact .refl s

theorem frameBytes_hands (st : Station) (bytes : List Byte) (s : State) : Hands s (frameBytes st bytes s) := by
  unfold frameBytes
  dsimp only
  split
  · split
    · exact (setPort_same_demands ..).handed.trans (arrive_hands ..)
    · split
      · exact (setPort_same_demands ..).handed
      · exact .refl s
  all_goals exact .refl s

theorem readOutDone_hands (st : Station) (s : State) : Hands s (readOutDone st s) := by
  unfold readOutDone
  dsimp only
  split
  · exact (setPort_same_demands ..).handed.trans (takeEntries_hands ..)
  all_goals exact .refl s

theorem selRises_hands (st : Station) (bytes : List Byte) (s : State) : Hands s (selRises st bytes s) := by
  unfold selRises
  dsimp only
  split
  · split
    · exact (setPort_same_demands ..).handed.trans (arrive_hands ..)
    · exact (setPort_same_demands ..).handed
  · exact (setPort_same_demands ..).handed
  · exact .refl s
  · exact (setPort_same_demands ..).handed

/-! ### The field loop -/

theorem senseChange_hands (n : Nat) (new : Sensed) (cause : Nat) (s : State) : Hands s (senseChange n new cause s) := by
  unfold senseChange
  split
  · exact .refl s
  · exact .of_handed (settle_handed ..)

theorem senseChangeIf_hands (n : Nat) (old new : Sensed) (cause : Nat) (s : State) :
    Hands s (senseChangeIf n old new cause s) := by
  unfold senseChangeIf
  split
  · exact .refl s
  · exact senseChange_hands ..

theorem requestBandChange_hands (node : Nat) (s : State) : Hands s (requestBandChange node s) := by
  unfold requestBandChange
  dsimp only
  refine Hands.trans ?_ (modBaysOf_same_demands (fun _ => by rfl) _).handed
  split
  · exact (post_same_demands ..).handed
  · split
    · exact (setLoop_same_demands ..).handed
    · exact (post_same_demands ..).handed

theorem baySample_hands (n : Nat) (entry : Option Nat) (s : State) : Hands s (baySample n entry s) := by
  cases hfind : s.bays.find n with
  | none => simpa [baySample, hfind] using Hands.refl s
  | some b =>
    have hbay {f : Bay → Bay} (h : ((f b).sensed, (f b).cfg.row) = (b.sensed, b.cfg.row)) : Hands s (s.modBay n f) :=
      (modBay_same_demands fun x hx => Option.some.inj (hfind.symm.trans hx) ▸ h).handed
    have hinvalid : Hands s (invalidSample n b s) := by
      unfold invalidSample
      dsimp only
      split
      · exact (hbay (by rfl)).trans (senseChange_hands ..)
      · exact hbay (by rfl)
    simp only [baySample, hfind]
    split
    · split
      · unfold learningSample
        split
        · exact hbay (by rfl)
        · exact (hbay (by rfl)).trans (senseChangeIf_hands ..)
      · unfold classifiedSample
        dsimp only
        split
        · exact (hbay (by rfl)).trans (senseChange_hands ..)
        · split
          · exact (hbay (by rfl)).trans (requestBandChange_hands ..)
          · exact hbay (by rfl)
    · exact hinvalid

theorem takeSamples_hands (node ch : Nat) (l : List (Option Nat)) (s : State) : Hands s (takeSamples node ch l s) := by
  induction l generalizing ch s with
  | nil => exact .refl s
  | cons e rest ih =>
    rw [takeSamples]
    refine Hands.trans ?_ (ih _ _)
    split
    · exact baySample_hands ..
    · exact .refl s

theorem nodeFaultBays_hands (node : Nat) (s : State) : Hands s (nodeFaultBays node s) := by
  refine forEach_rel Hands Hands.refl (fun _ _ _ => Hands.trans) _ (fun n s => ?_) _ s
  unfold bayNodeFault
  split
  · exact .refl s
  · exact (modBay_same_demands fun _ _ => by rfl).handed.trans (senseChangeIf_hands ..)

theorem handHealth_hands (address : Nat) (old new : NodeHealth) (before s : State) :
    Hands s (handHealth address old new before s) := by
  unfold handHealth
  split
  · exact .refl s
  · split
    · split
      · exact nodeFaultBays_hands ..
      · exact .refl s
    · split
      · split
        · exact .refl s
        · unfold headNodeChange
          split
          · exact .refl s
          · dsimp only
            split
            · exact .refl s
            · exact .of_handed (settle_handed ..)
      · split
        · split
          · exact .of_handed (settle_handed ..)
          · exact .refl s
        · exact .refl s

theorem recordOutcome_hands (address : Nat) (outcome : FieldOutcome) (s : State) :
    Hands s (recordOutcome address outcome s) := by
  refine Hands.trans ?_ (handHealth_hands ..)
  exact ((setLoop_same_demands ..).trans (.of_apart (postNodeState_within ..) (by decide))).handed

theorem acknowledgeBand_hands (node : Nat) (p : PendingBand) (s : State) : Hands s (acknowledgeBand node p s) := by
  have hbands (b : Table BandRecord) : SameDemands s { s with bands := b } := ⟨rfl, rfl, rfl⟩
  unfold acknowledgeBand
  dsimp only
  split
  · exact (((hbands _).trans (modBaysOf_same_demands (fun _ => by rfl) _)).trans (post_same_demands ..)).handed
  · exact ((hbands _).trans (modBaysOf_same_demands (fun _ => by rfl) _)).handed

theorem deliverReply_hands (t : Transaction) (bytes : List Byte) (s : State) : Hands s (deliverReply t bytes s) := by
  unfold deliverReply
  split
  · exact takeSamples_hands ..
  · unfold bandReply
    split
    · exact .refl s
    · split
      · exact (setLoop_same_demands ..).handed.trans (acknowledgeBand_hands ..)
      · exact .refl s
  · unfold gasReply
    split
    · exact .refl s
    · exact .of_handed (settle_handed ..)
  · exact .refl s
  · exact .refl s

theorem finishTransaction_hands (chars : List FieldChar) (s : State) : Hands s (finishTransaction chars s) := by
  unfold finishTransaction
  split
  · exact .refl s
  · split
    · refine Hands.trans ?_ ((setLoop_same_demands ..).trans (startTransaction_same_demands _)).handed
      split
      · exact ((setLoop_same_demands ..).handed.trans (recordOutcome_hands ..)).trans (deliverReply_hands ..)
      · exact (setLoop_same_demands ..).handed.trans (recordOutcome_hands ..)
    · exact ((setLoop_same_demands ..).trans (startTransaction_same_demands _)).handed

/-! ### Every row -/

theorem whenRunning_hands {f : State → State} (h : ∀ s, Hands s (f s)) (s : State) : Hands s (whenRunning f s) := by
  unfold whenRunning
  split
  · exact .refl s
  · exact h s

theorem settled_hands (f : State → State) (s : State) : Hands s (whenRunning (fun s => settle s (f s)) s) :=
  whenRunning_hands (fun _ => .of_handed (settle_handed ..)) s

theorem due_hands (f : State → State) (c : State → Bool) (s : State) :
    Hands s (whenRunning (fun s => if c s then settle s (f s) else s) s) := by
  refine whenRunning_hands (fun s => ?_) s
  split
  · exact .of_handed (settle_handed ..)
  · exact .refl s

theorem unless_held_hands {f : State → State} (h : ∀ s, Hands s (f s)) (s : State) :
    Hands s (if s.control.resetHeld then s else f s) := by
  split
  · exact .refl s
  · exact h s

theorem setPins_same_demands (p : Pins) (s : State) : SameDemands s { s with pins := p } := ⟨rfl, rfl, rfl⟩

theorem rampInput_hands (pair : Nat) (side : LoopSide) (high : Bool) (s : State) :
    Hands s
      (if s.pins.ramp pair side = high then s
      else whenRunning (startSettle pair) { s with pins := s.pins.withRamp pair side high }) := by
  have hsettle (s : State) : SameDemands s (startSettle pair s) := .of_apart (modPair_within ..) (by decide)
  split
  · exact .refl s
  · exact (setPins_same_demands _ s).handed.trans (whenRunning_hands (fun s => (hsettle s).handed) _)

theorem driftExpire_hands (level : Nat) (s : State) : Hands s (driftExpire level s) := by
  unfold driftExpire
  split
  · exact .refl s
  · split
    · exact ((modLevel_same_demands fun _ _ => by rfl).trans (post_same_demands ..)).handed
    · exact .refl s

theorem requestSent_hands (s : State) : Hands s (requestSent s) := by
  unfold requestSent
  split
  · exact (setLoop_same_demands ..).handed
  · exact .refl s

theorem replyCharacters_hands (chars : List FieldChar) (s : State) : Hands s (replyCharacters chars s) := by
  unfold replyCharacters
  split
  · exact .refl s
  · split
    · dsimp only
      split
      · exact finishTransaction_hands ..
      · exact (setLoop_same_demands ..).handed
    · exact .refl s

theorem replyExpires_hands (s : State) : Hands s (replyExpires s) := by
  unfold replyExpires
  split
  · exact .refl s
  · split
    · exact finishTransaction_hands ..
    · exact .refl s

theorem drainEnds_hands (s : State) : Hands s (drainEnds s) := by
  unfold drainEnds
  split
  · exact ((setLoop_same_demands ..).trans (startTransaction_same_demands _)).handed
  · exact .refl s

theorem waitExpire_hands (ticket : Nat) (s : State) : Hands s (waitExpire ticket s) := by
  unfold waitExpire
  split
  · split
    · exact ((setGuidance_same_demands ..).trans (postTo_same_demands ..)).handed
    · exact .refl s
  · exact .refl s

theorem lightExpire_hands (n : Nat) (s : State) : Hands s (lightExpire n s) := by
  unfold lightExpire
  split
  · exact .refl s
  · split
    · exact .of_handed (settle_handed ..)
    · exact .refl s

theorem riseExpire_hands (n : Nat) (s : State) : Hands s (riseExpire n s) := by
  unfold riseExpire
  split
  · exact .refl s
  · split
    · split
      · exact (rowRise_grantsStand n s).toLoadsStand.same_demands.handed
      · exact .refl s
    all_goals exact .refl s

theorem fadeExpire_hands (n : Nat) (s : State) : Hands s (fadeExpire n s) := by
  unfold fadeExpire
  split
  · exact .refl s
  · split
    · split
      · exact ((modRow_stands fun _ _ => by rfl).trans (retryOnDecrease_grantsStand ..).toLoadsStand).same_demands.handed
      · exact .refl s
    all_goals exact .refl s

theorem accelerationExpire_hands (ch : Nat) (s : State) : Hands s (accelerationExpire ch s) := by
  unfold accelerationExpire
  split
  · exact .refl s
  next f hfind =>
    split
    next h =>
      exact (fanAccelerate_grantsStand fun x hx =>
        Option.some.inj (hfind.symm.trans hx) ▸ .inr h.1).toLoadsStand.same_demands.handed
    next => exact .refl s

theorem Fan.demands_descend (now : Time) (f : Fan) (rest : FanState) (timer : Option Time) :
    (f.descend now rest timer).demands = f.demands := by
  unfold Fan.descend
  split <;> rfl

theorem Fan.demands_decelerated (now : Time) (f : Fan) : (f.decelerated now).demands = f.demands := by
  unfold Fan.decelerated
  split
  · exact f.demands_descend ..
  · split <;> rfl

theorem decelerationExpire_hands (ch : Nat) (s : State) : Hands s (decelerationExpire ch s) := by
  have stepped {g : Fan → Fan} (hg : ∀ f, (g f).demands = f.demands) : Hands s (retryOnDecrease s (s.modFan ch g)) :=
    ((modFan_same_demands fun x _ => hg x).trans (retryOnDecrease_grantsStand ..).toLoadsStand.same_demands).handed
  unfold decelerationExpire
  split
  · exact .refl s
  · split
    · split
      · exact stepped fun f => f.demands_decelerated _
      · split
        · exact stepped fun f => f.demands_descend ..
        · exact .refl s
    · exact .refl s

theorem reverseDwellExpire_hands (ch : Nat) (s : State) : Hands s (reverseDwellExpire ch s) := by
  cases hfind : s.fans.find ch with
  | none => simpa [reverseDwellExpire, hfind] using Hands.refl s
  | some f =>
    have hended : SameDemands s (dwellEnded ch f s) := by
      unfold dwellEnded
      dsimp only
      split
      · exact modFan_same_demands fun _ _ => by rfl
      · exact (modFan_same_demands fun _ _ => by rfl).trans (post_same_demands ..)
    rw [reverseDwellExpire_of_find hfind]
    split
    · split
      · refine (hended.trans (fanStart_grantsStand fun x hx => ?_).toLoadsStand.same_demands).handed
        rw [dwellEnded_fans hfind] at hx
        cases hx
        exact .inl rfl
      · exact hended.handed
    · exact .refl s

theorem faultAsserted_hands (ch : Nat) (s : State) : Hands s (faultAsserted ch s) := by
  unfold faultAsserted
  split
  · exact .refl s
  · split
    · exact .of_handed (settle_handed ..)
    · exact .refl s

theorem writeCompletes_hands (crcGood : Bool) (s : State) : Hands s (writeCompletes crcGood s) := by
  unfold writeCompletes
  split
  · exact .refl s
  · dsimp only
    split
    · exact ((setControl_same_demands (by rfl)).trans (post_same_demands ..)).handed
    · exact ((setControl_same_demands (by rfl)).trans (post_same_demands ..)).handed

theorem writeExpires_hands (s : State) : Hands s (writeExpires s) := by
  unfold writeExpires
  split
  · exact .refl s
  · split
    · exact ((setControl_same_demands (by rfl)).trans (post_same_demands ..)).handed
    · exact .refl s

theorem exec_hands {i : Instr} (h : exec i s = .next t) : Hands s t := by
  cases hentry : i.entry with
  | some x =>
    cases (exec_entry i x.1 x.2 s hentry).symm.trans h
    exact receive_hands x.1 x.2 s
  | none =>
    cases i with
    | selFall st => cases h; exact selFalls_hands st s
    | commandFrameReceived st bytes => cases h; exact unless_held_hands (frameBytes_hands st bytes) s
    | responseFrameReadOut st => cases h; exact unless_held_hands (readOutDone_hands st) s
    | selRise st bytes =>
      cases h
      split
      · exact (setPort_same_demands ..).handed
      · exact selRises_hands st bytes s
    | rampInputChange pair side high => cases h; exact rampInput_hands pair side high s
    | settleTimerExpiry pair => cases h; exact settled_hands ..
    | censusMinuteTimerExpiry => cases h; exact due_hands censusMinute (fun s => Time.reached s.deckTime s.censusMinute) s
    | censusStartTimerExpiry => cases h; exact due_hands startCensus (fun s => timerDue s.deckTime s.censusStart) s
    | driftTimerExpiry level => cases h; exact whenRunning_hands (driftExpire_hands level) s
    | fieldRequestSent => cases h; exact whenRunning_hands requestSent_hands s
    | fieldReplyReceived chars => cases h; exact whenRunning_hands (replyCharacters_hands chars) s
    | fieldReplyCharacterReceived char => cases h; exact whenRunning_hands (replyCharacters_hands [char]) s
    | replyTimerExpiry => cases h; exact whenRunning_hands replyExpires_hands s
    | drainEnd => cases h; exact whenRunning_hands drainEnds_hands s
    | waitTimerExpiry ticket => cases h; exact whenRunning_hands (waitExpire_hands ticket) s
    | holdExpiry ticket => cases h; exact settled_hands ..
    | lightTimerExpiry row => cases h; exact whenRunning_hands (lightExpire_hands row) s
    | riseTimerExpiry row => cases h; exact whenRunning_hands (riseExpire_hands row) s
    | fadeTimerExpiry row => cases h; exact whenRunning_hands (fadeExpire_hands row) s
    | airMinuteTimerExpiry => cases h; exact due_hands airMinute (fun s => Time.reached s.deckTime s.airMinute) s
    | dwellTimerExpiry zone => cases h; exact settled_hands ..
    | overrideTimerExpiry zone => cases h; exact settled_hands ..
    | accelerationTimerExpiry ch => cases h; exact whenRunning_hands (accelerationExpire_hands ch) s
    | decelerationTimerExpiry ch => cases h; exact whenRunning_hands (decelerationExpire_hands ch) s
    | reverseDwellExpiry ch => cases h; exact whenRunning_hands (reverseDwellExpire_hands ch) s
    | fanFaultInputAsserted ch =>
      cases h
      exact (setPins_same_demands _ s).handed.trans (whenRunning_hands (faultAsserted_hands ch) _)
    | fanFaultInputReleased ch => cases h; exact (setPins_same_demands _ s).handed
    | shedChange asserted =>
      cases h
      exact (setPins_same_demands _ s).handed.trans (whenRunning_hands (fun t => .of_handed (settle_handed _ t)) _)
    | profileWriteCompletion crcGood => cases h; exact whenRunning_hands (writeCompletes_hands crcGood) s
    | profileWriteTimerExpiry => cases h; exact whenRunning_hands writeExpires_hands s
    | powerOn strapHigh => cases h; exact .of_handed (fullRestart_handed ..)
    | resetNAsserted => cases h; exact (setControl_same_demands (by rfl)).handed
    | resetNReleased =>
      cases h
      split
      · exact .of_handed (fullRestart_handed ..)
      · exact .refl s
    | deckTimeTick =>
      cases h
      exact whenRunning_hands (f := fun s => { s with deckTime := s.deckTime + 1#32 })
        (fun _ => (SameDemands.mk (by rfl) (by rfl) (by rfl)).handed) s
    | _ => cases hentry

/-- Settles O7: classes and held steps from the laws kept by every command, demands handed from `exec_hands`. -/
theorem loadsKeptByStep : Obligations.LoadsKeptByStep := by
  unfold Obligations.LoadsKeptByStep
  intro s t h
  refine ⟨fun ht hl => ?loads, fun hd => ?demands, fun hs => ?steps⟩
  case loads =>
    obtain ⟨htables, hclasses⟩ := step_induction
      (P := fun s => TablesRising s = true ∧ ∀ p ∈ s.fans, p.2.ClassFits) (fun _ _ => id)
      (fun i s t hi ⟨ht, hc⟩ => ⟨(exec_stepKeeps hi).tables ht, (exec_stepKeeps hi).classes hc⟩)
      ⟨ht, (loadsFit_iff.1 hl).2.2⟩ h
    obtain ⟨⟨_, _, _, hrows, _, _, hfans⟩, _⟩ := tablesRising_iff.1 htables
    exact loadsFit_iff.2 ⟨hfans, hrows, hclasses⟩
  case demands =>
    exact step_induction (P := fun s => DemandsHanded s = true)
      (fun s q => (SameDemands.mk (s := s) (t := s.withPending q) rfl rfl rfl).handed.kept) (fun i s t hi => (exec_hands hi).kept) hd h
  case steps =>
    exact step_induction (P := fun s => StepsHeld s = true) (fun _ _ => id) (fun i s t hi => (exec_stepKeeps hi).steps) hs h

end Sys2Proof.Machine
end

section
/-! Steps, reset, the profile store and the restarts without a profile (chapter 10). -/

namespace Sys2Proof.Machine
variable {s t u : State}

/-! ### O1 and O8 -/

/-- Settles O1: the step takes the front of the queue apart. -/
theorem stepRunsFrontCommand : Obligations.StepRunsFrontCommand := by
  unfold Obligations.StepRunsFrontCommand
  intro s c rest hpending
  unfold step
  rw [hpending]

/-- Settles O8: at reset every table and every list is empty. -/
theorem invariantsHoldAtReset : Obligations.InvariantsHoldAtReset :=
  ⟨rfl, rfl, rfl, rfl, rfl, rfl, rfl, rfl⟩

/-! ### Commands at a port that is ready -/

section
variable {i : Instr} {st : Station} {tag code : Nat} {c : Command} {status : Status} {contents : List Byte}

/-- A command of a known code answered by its block with one response. -/
theorem exec_answers (hi : i.entry = some (st, .command tag c)) (h : Ready s st = true) (hcode : c.code = code)
    (hseven : code ≠ 0x07) (hclass : inClass code st = true) (hl : c.lengthFits = true)
    (he : execute st c s = (t, [(status, contents)])) : exec i s = replies s st tag code status contents t := by
  subst hcode
  exact exec_command i st tag c s t status contents hi h hseven hclass hl he

/-- A command of a known code that its block carries out without a response (R181). -/
theorem exec_silent (hi : i.entry = some (st, .command tag c)) (h : Ready s st = true) (hcode : c.code = code)
    (hseven : code ≠ 0x07) (hclass : inClass code st = true) (hl : c.lengthFits = true)
    (he : execute st c s = (t, [])) : exec i s = .next t := by
  subst hcode
  have hj : judgeEntry st (.command tag c) s = (t, []) := by rw [judgeEntry_taken st tag c s hclass hl, he]
  rw [exec_entry i st _ s hi, receive_silent st (.command tag c) s t h hseven hj]

end

/-! ### The profile store -/

theorem doStoreProfile_of_idle (hw : s.writing = false) :
    doStoreProfile s =
      ({ s with
          control :=
            { s.control with
              profileValid := false, store := none,
              write := some { started := s.deckTime, expires := Time.plus s.deckTime 50, contents := profileOf s } } },
        [(.accepted, [])]) := by
  simp [doStoreProfile, hw, answer, State.setControl]

theorem whenRunning_of_running {f : State → State} (h : s.control.resetHeld = false) : whenRunning f s = f s := by
  simp [whenRunning, h]

theorem whenRunning_of_held {f : State → State} (h : s.control.resetHeld = true) : whenRunning f s = s := by
  simp [whenRunning, h]

/-- The row of a timer or an input on a part that is not held. -/
theorem exec_running {i : Instr} {f : State → State} (h : s.control.resetHeld = false)
    (hi : exec i s = .next (whenRunning f s)) : exec i s = .next (f s) := by rw [hi, whenRunning_of_running h]

theorem whenRunning_same {f : State → State} (h : f s = s) : whenRunning f s = s := by simp [whenRunning, h]

/-- Settles O24: the command, the completion and the timer, each by the write in flight. -/
theorem profileWritesEnd : Obligations.ProfileWritesEnd := by
  unfold Obligations.ProfileWritesEnd
  intro s tag
  refine ⟨fun h hw => ?_, fun w hrun hw => ⟨?_, ?_, fun hdue => ?_⟩, fun good hw => ⟨?_, ?_⟩⟩
  · exact exec_answers (c := .storeProfile) rfl h rfl (by decide) rfl rfl (doStoreProfile_of_idle hw)
  · simp [exec, execProfileWriteCompletion, whenRunning_of_running hrun, writeCompletes, hw, State.setControl]
  · simp [exec, execProfileWriteCompletion, whenRunning_of_running hrun, writeCompletes, hw, State.setControl]
  · simp [exec, execProfileWriteTimerExpiry, whenRunning_of_running hrun, writeExpires, hw, hdue, State.setControl]
  · simp [exec, execProfileWriteCompletion, whenRunning_same (f := writeCompletes good) (s := s) (by simp [writeCompletes, hw])]
  · simp [exec, execProfileWriteTimerExpiry, whenRunning_same (f := writeExpires) (s := s) (by simp [writeExpires, hw])]

/-! ### Restarts -/

/-- With no valid profile, or with a write in flight, a full restart leaves every block as at reset (R193). -/
theorem fullRestart_blank (cause : RestartCause) (h : s.control.store = none ∨ s.writing = true) :
    fullRestart cause s = blankRestart cause s := by
  have hstored : (if s.writing then none else s.control.store) = none := by
    rcases h with h | h <;> simp [h]
  unfold fullRestart
  rw [hstored]
  rfl

/-- Settles O25: the three causes lead to the one restart. -/
theorem restartWithoutProfileClears : Obligations.RestartWithoutProfileClears := by
  unfold Obligations.RestartWithoutProfileClears
  refine fun s h => ⟨fun strap => ?_, fun hheld => ?_, fun tag hready => ?_⟩
  · exact congrArg _ (fullRestart_blank .powerOn (s := { s with control := { s.control with strapHigh := strap } }) h)
  · simp [exec, execResetNReleased, hheld, fullRestart_blank .pin h]
  · refine exec_silent (c := .restart 0) rfl hready rfl (by decide) rfl rfl ?_
    simp [execute, doRestart, fullRestart_blank .hardCommand h]

theorem firstEntry_eq (list : List Nat) : firstEntry list = if list = [] then 0 else 1 := by
  cases list <;> rfl

theorem cutShort_eq (s : State) :
    cutShort s =
      s.setLoop
        { s.loop with
          current := none
          next := if s.loop.pollList = [] then 0 else 1
          state := if s.loop.current = none then s.loop.state else .draining } := by
  unfold cutShort
  rw [firstEntry_eq]
  cases s.loop.current <;> rfl

theorem softRestart_eq (s : State) :
    softRestart s =
      { s with
        control := { s.control with cause := .softCommand }
        ports :=
          { supervisor := portRestarted s.deckTime .softCommand s.control.profileValid s.control.mode
              s.ports.supervisor.mask s.ports.supervisor
            lane := portRestarted s.deckTime .softCommand s.control.profileValid s.control.mode
              s.ports.lane.mask s.ports.lane
            guidance := portRestarted s.deckTime .softCommand s.control.profileValid s.control.mode
              s.ports.guidance.mask s.ports.guidance }
        loop :=
          { s.loop with
            current := none
            next := if s.loop.pollList = [] then 0 else 1
            state := if s.loop.current = none then s.loop.state else .draining } } := by
  unfold softRestart
  rw [cutShort_eq]
  rfl

theorem deckTime_add_one_toNat (d : Time) : (d + 1#32).toNat = if d.toNat = 4294967295 then 0 else d.toNat + 1 := by
  have := d.isLt
  simp only [BitVec.toNat_add, BitVec.toNat_ofNat]
  split <;> omega

theorem timers_held (h : s.control.resetHeld = true) (n : Nat) :
    ∀ i ∈ [Instr.settleTimerExpiry n, .censusMinuteTimerExpiry, .censusStartTimerExpiry, .driftTimerExpiry n,
      .fieldRequestSent, .replyTimerExpiry, .drainEnd, .waitTimerExpiry n, .holdExpiry n, .lightTimerExpiry n,
      .riseTimerExpiry n, .fadeTimerExpiry n, .airMinuteTimerExpiry, .dwellTimerExpiry n, .overrideTimerExpiry n,
      .accelerationTimerExpiry n, .decelerationTimerExpiry n, .reverseDwellExpiry n, .profileWriteTimerExpiry,
      .deckTimeTick], exec i s = .next s := by
  have held (f : State → State) : (.next (whenRunning f s) : Host.Outcome State Fault Refusal) = .next s :=
    congrArg _ (whenRunning_of_held h)
  simp only [List.forall_mem_cons, List.not_mem_nil, false_implies, implies_true, and_true]
  exact ⟨held _, held _, held _, held _, held _, held _, held _, held _, held _, held _, held _, held _, held _, held _,
    held _, held _, held _, held _, held _, held _⟩

/-- Settles O27: the soft restart field by field; a held part takes no entry and no timer's step. -/
theorem softRestartHoldAndTime : Obligations.SoftRestartHoldAndTime := by
  unfold Obligations.SoftRestartHoldAndTime
  refine ⟨fun s tag hready hw => ?soft, fun s => ⟨rfl, fun hrun => ?tick, fun hheld => ⟨fun i st e hi => ?entry, ?timers⟩⟩⟩
  case soft =>
    refine exec_silent (c := .restart 1) rfl hready rfl (by decide) rfl rfl ?_
    rw [← softRestart_eq]
    simp [execute, doRestart, hw]
  case tick =>
    exact ⟨{ s with deckTime := s.deckTime + 1#32 }, exec_running (f := fun s => { s with deckTime := s.deckTime + 1#32 }) hrun rfl, rfl,
      deckTime_add_one_toNat s.deckTime⟩
  case entry =>
    rw [exec_entry i st e s hi]
    simp [receive, hheld]
  case timers => exact timers_held hheld

end Sys2Proof.Machine
end

section
/-! The effective allowance, requests and tickets: the commands of chapters 3 and 7 answered. -/

namespace Sys2Proof.Machine
variable {s t u : State}

/-! ### Operands -/

theorem clamp_eq_ite {lo hi : Nat} (h : lo ≤ hi) (x : Nat) :
    clamp lo hi x = if x < lo then lo else if hi < x then hi else x := by
  unfold clamp
  split
  · omega
  · split <;> omega

theorem clampedStatus_ne (b : Bool) (P : Prop) [Decidable P] (h : b = false ↔ P) :
    clampedStatus b = if P then .done else .doneClamped := by
  cases b
  · rw [if_pos (h.1 rfl)]; rfl
  · rw [if_neg fun hp => by simpa using h.2 hp]; rfl

/-! ### O29 -/

/-- The end of an event that has changed the allowance alone (R148, R149). -/
theorem settle_of_allowance (hrun : t.inRun = true) (hdemands : handDemands t = t) (hinputs : loadInputs t = loadInputs s) :
    settle s t = if t.allowance = s.allowance then t else compute false t := by
  have hchanged : inputsChanged s t = decide (t.allowance ≠ s.allowance) := by simp [inputsChanged, hinputs]
  simp only [settle, hrun, if_true, hdemands, hchanged, decide_eq_true_eq]
  exact ite_not ..

theorem handDemands_setSupply {u : Supply} (h : handDemands s = s) : handDemands { s with supply := u } = { s with supply := u } :=
  congrArg (fun s : State => { s with supply := u }) h

theorem handDemands_setPins {p : Pins} (h : handDemands s = s) : handDemands { s with pins := p } = { s with pins := p } :=
  congrArg (fun s : State => { s with pins := p }) h

/-- Settles O29: the stores of both operands, and the computation by whether A has changed. -/
theorem allowanceChangesAct : Obligations.AllowanceChangesAct := by
  unfold Obligations.AllowanceChangesAct
  refine fun s => ⟨fun tag normal shed h hw => ?command, fun asserted => ?input⟩
  case command =>
    rw [← clamp_eq_ite (by decide : 1000 ≤ 2000000), ← clamp_eq_ite (by decide : 1000 ≤ 2000000)]
    intro n d a s1 reply
    have hanswer : exec (.setAllowance .supervisor tag normal shed) s = reply (settle s s1) := by
      refine exec_answers (c := .setAllowance normal shed) rfl h rfl (by decide) rfl rfl ?_
      have hstatus : clampedStatus (decide (n ≠ normal) || decide (d ≠ shed)) =
          if n = normal ∧ d = shed then .done else .doneClamped := clampedStatus_ne _ _ (by simp)
      simp only [execute, doSetAllowance, hw, checked_cons, checked_nil, answer, joinFields_cons, joinFields_nil,
        List.append_nil, List.append_assoc]
      rw [← hstatus]
      rfl
    refine ⟨fun hrun => ?_, fun hrun hdemands => ?_⟩
    · rw [hanswer, settle_config s s1 hrun]
    · have hsettle : settle s s1 = if s1.allowance = s.allowance then s1 else compute false s1 :=
        settle_of_allowance hrun (handDemands_setSupply hdemands) rfl
      rw [hanswer, hsettle]
      rfl
  case input =>
    intro a s1
    have hexec : exec (.shedChange asserted) s = .next (whenRunning (settle s) s1) := rfl
    refine ⟨fun hidle => ?_, fun hrun hheld hdemands => ?_⟩
    · rw [hexec]
      rcases hidle with hrun | hheld
      · rw [whenRunning_same (settle_config s s1 hrun)]
      · rw [whenRunning_of_held (s := s1) hheld]
    · have hsettle : settle s s1 = if s1.allowance = s.allowance then s1 else compute false s1 :=
        settle_of_allowance hrun (handDemands_setPins hdemands) rfl
      rw [hexec, whenRunning_of_running (s := s1) hheld, hsettle]
      rfl

end Sys2Proof.Machine
end

section
/-! Requests, withdrawals and the ends of holds (chapter 3). -/

namespace Sys2Proof.Machine
variable {s t u : State}

/-! ### O30 -/

/-- The operands REQUEST_BAY takes from a station (R49). -/
def requestFits (st : Station) (cls lane priority : Nat) : Bool :=
  within 0 3 cls && within 0 3 lane && within 0 1 priority && !(decide (priority = 1) && decide (st = .lane))

theorem requestFits_iff {st : Station} {cls lane priority : Nat} :
    requestFits st cls lane priority = true ↔
      cls ≤ 3 ∧ lane ≤ 3 ∧ priority ≤ 1 ∧ ¬ (priority = 1 ∧ st = .lane) := by
  simp only [requestFits, Bool.and_eq_true, Bool.not_eq_true', within_zero_eq_true_iff, Bool.and_eq_false_iff,
    decide_eq_false_iff_not, not_and_or, and_assoc]

section
variable {st : Station} {cls lane priority : Nat}

theorem doRequestBay_of_room (hrun : s.inRun = true) (hfits : requestFits st cls lane priority = true)
    (hroom : s.guidance.queue.length < 32) :
    doRequestBay st cls lane priority s =
      (placeRequest st cls lane (decide (priority = 1)) s,
        [(.done, leBytes 2 (issueTicket s.guidance) ++
          requestOutcome (placeRequest st cls lane (decide (priority = 1)) s) (issueTicket s.guidance))]) := by
  have hfits : (!requestFits st cls lane priority) = false := by simp [hfits]
  unfold requestFits at hfits
  simp only [doRequestBay, checked_cons, checked_nil, hrun, hfits, decide_eq_false hroom.not_ge, done, answer]
  rfl

theorem doRequestBay_of_not_fits (hrun : s.inRun = true) (hfits : requestFits st cls lane priority = false) :
    doRequestBay st cls lane priority s = (s, [(.badArgument, [])]) := by
  have hfits : (!requestFits st cls lane priority) = true := by simp [hfits]
  unfold requestFits at hfits
  simp only [doRequestBay, checked_cons, checked_nil, hrun, hfits]
  rfl

theorem doRequestBay_of_full (hrun : s.inRun = true) (hfits : requestFits st cls lane priority = true)
    (hfull : 32 ≤ s.guidance.queue.length) : doRequestBay st cls lane priority s = (s, [(.queueFull, [])]) := by
  have hfits : (!requestFits st cls lane priority) = false := by simp [hfits]
  unfold requestFits at hfits
  simp only [doRequestBay, checked_cons, checked_nil, hrun, hfits, decide_eq_true hfull]
  rfl

end

theorem requestOutcome_of_hold {ticket : Nat} {h : Hold} (hh : findHold t.guidance.holds ticket = some h) :
    leBytes 2 ticket ++ requestOutcome t ticket =
      joinFields [2, 1, 2, 1, 1] [ticket, 0, h.bay, h.level, ((t.bays.find h.bay).map (·.cfg.row)).getD 0] := by
  simp [requestOutcome, hh]

theorem requestOutcome_of_queued {ticket : Nat} (hh : findHold t.guidance.holds ticket = none) :
    leBytes 2 ticket ++ requestOutcome t ticket =
      joinFields [2, 1, 1] [ticket, 1, queuePosition t.guidance.queue ticket] := by
  simp [requestOutcome, hh]

/-- Settles O30: the three checks of REQUEST_BAY, and its outcome by whether the pass gave its ticket a hold. -/
theorem requestBayPlacesRequest : Obligations.RequestBayPlacesRequest := by
  unfold Obligations.RequestBayPlacesRequest
  intro s st tag cls lane priority h hclass hrun
  have answered {t' : State} {status : Status} {contents : List Byte}
      (he : doRequestBay st cls lane priority s = (t', [(status, contents)])) :
      exec (.requestBay st tag cls lane priority) s = replies s st tag 0x30 status contents t' :=
    exec_answers (c := .requestBay cls lane priority) rfl h rfl (by decide) hclass rfl he
  refine ⟨fun hfits hroom x hx => ?_, fun hfits hroom hnone => ?_, fun hno => ?_, fun hfits hfull => ?_⟩
  · rw [← requestOutcome_of_hold hx]
    exact answered (doRequestBay_of_room hrun (requestFits_iff.2 hfits) hroom)
  · rw [← requestOutcome_of_queued hnone]
    exact answered (doRequestBay_of_room hrun (requestFits_iff.2 hfits) hroom)
  · exact answered (doRequestBay_of_not_fits hrun (Bool.eq_false_iff.2 fun hfits => hno (requestFits_iff.1 hfits)))
  · exact answered (doRequestBay_of_full hrun (requestFits_iff.2 hfits) hfull)

/-! ### O31 -/

section
variable {st : Station} {ticket : Nat}

theorem doWithdraw_of_queued {r : Request} (hticket : ticket ≠ 0) (hr : findRequest s.guidance.queue ticket = some r) :
    doWithdraw st ticket s =
      done (if r.station = st then removeRequest ticket s
        else postTo r.station .requestLapsed ticket 2 r.lane (removeRequest ticket s))
        (leBytes 1 (queuePosition s.guidance.queue ticket)) := by
  simp [doWithdraw, hticket, hr]

theorem doWithdraw_of_held {h : Hold} (hticket : ticket ≠ 0) (hr : findRequest s.guidance.queue ticket = none)
    (hh : findHold s.guidance.holds ticket = some h) :
    doWithdraw st ticket s = answer s .refusedState (leBytes 2 h.bay) := by
  simp [doWithdraw, hticket, hr, hh]

theorem doWithdraw_of_dead (hticket : ticket ≠ 0) (hr : findRequest s.guidance.queue ticket = none)
    (hh : findHold s.guidance.holds ticket = none) : doWithdraw st ticket s = refuse s .notFound := by
  simp [doWithdraw, hticket, hr, hh]

theorem doCancelHold_of_held {h : Hold} (hticket : ticket ≠ 0) (hh : findHold s.guidance.holds ticket = some h) :
    doCancelHold ticket s = done (settle s (allocationPass (lapseHold h .opened 1 s))) (leBytes 2 h.bay) := by
  simp [doCancelHold, hticket, hh]

theorem doCancelHold_of_queued {r : Request} (hticket : ticket ≠ 0) (hh : findHold s.guidance.holds ticket = none)
    (hr : findRequest s.guidance.queue ticket = some r) : doCancelHold ticket s = refuse s .refusedState := by
  simp [doCancelHold, hticket, hr, hh]

theorem doCancelHold_of_dead (hticket : ticket ≠ 0) (hh : findHold s.guidance.holds ticket = none)
    (hr : findRequest s.guidance.queue ticket = none) : doCancelHold ticket s = refuse s .notFound := by
  simp [doCancelHold, hticket, hr, hh]

/-- The request nearest the tail: the last of the station's own (R52). -/
theorem newestOf_append {before after : List Request} {r : Request} (hr : r.station = st)
    (hafter : ∀ x ∈ after, x.station ≠ st) : newestOf st (before ++ r :: after) = some r := by
  have hnone : after.reverse.find? (fun x => decide (x.station = st)) = none := by
    simpa using hafter
  simp [newestOf, List.find?_append, hnone, hr]

theorem newestOf_eq_none {q : List Request} (h : ∀ x ∈ q, x.station ≠ st) : newestOf st q = none := by
  simpa [newestOf] using h

end

/-- Settles O31: each command by where its ticket stands, each expiry by the request or hold it finds. -/
theorem ticketsEnd : Obligations.TicketsEnd := by
  unfold Obligations.TicketsEnd
  refine ⟨fun s st tag ticket hready hclass => ?commands, fun s ticket hrun => ⟨fun r hr hdue => ?wait, fun h hh hdue => ?expiry⟩⟩
  case commands =>
    have withdraws {n : Nat} {t' : State} {status : Status} {contents : List Byte}
        (he : doWithdraw st n s = (t', [(status, contents)])) :
        exec (.withdraw st tag n) s = replies s st tag 0x31 status contents t' :=
      exec_answers (c := .withdraw n) rfl hready rfl (by decide) hclass rfl he
    have cancels {n : Nat} {t' : State} {status : Status} {contents : List Byte}
        (he : doCancelHold n s = (t', [(status, contents)])) :
        exec (.cancelHold st tag n) s = replies s st tag 0x33 status contents t' :=
      exec_answers (c := .cancelHold n) rfl hready rfl (by decide) hclass rfl he
    have newest {t' : State} {status : Status} {contents : List Byte}
        (he : doWithdrawNewest st s = (t', [(status, contents)])) :
        exec (.withdrawNewest st tag) s = replies s st tag 0x32 status contents t' :=
      exec_answers (c := .withdrawNewest) rfl hready rfl (by decide) hclass rfl he
    refine ⟨fun r hticket hr => ⟨withdraws (doWithdraw_of_queued hticket hr),
        fun hh => cancels (doCancelHold_of_queued hticket hh hr)⟩,
      fun h hticket hh => ⟨cancels (doCancelHold_of_held hticket hh),
        fun hr => withdraws (doWithdraw_of_held hticket hr hh)⟩,
      fun hticket hr hh => ⟨withdraws (doWithdraw_of_dead hticket hr hh), cancels (doCancelHold_of_dead hticket hh hr)⟩,
      ⟨withdraws rfl, cancels rfl⟩, fun before r after hq hr hafter => newest ?_, fun hnone => newest ?_⟩
    · rw [doWithdrawNewest, hq, newestOf_append hr hafter, ← hq]
      simp only [joinFields_cons, joinFields_nil, List.append_nil]
      rfl
    · rw [doWithdrawNewest, newestOf_eq_none hnone]
      rfl
  case wait =>
    refine (exec_running (f := waitExpire ticket) hrun rfl).trans (congrArg _ ?_)
    simp only [waitExpire, hr, hdue, if_true]
    rfl
  case expiry =>
    refine (exec_running (f := fun s => settle s (holdExpire ticket s)) hrun rfl).trans (congrArg _ ?_)
    simp only [holdExpire, hh, hdue, if_true]
    rfl

end Sys2Proof.Machine
end

section
/-! Events written to the ports, apart from everything else; the census (chapter 2). -/

namespace Sys2Proof.Machine
variable {s t u : State}

/-! ### What a post does to the ports -/

/-- A port after a post of a record: delivered where its mask holds the kind (R179). -/
def Port.told (p : Port) (e : EventRecord) : Port := if p.mask.getLsbD e.kind.code then p.delivered e else p

/-- The ports after a post of a record. -/
def Ports.told (p : Ports) (e : EventRecord) : Ports :=
  { supervisor := p.supervisor.told e, lane := p.lane.told e, guidance := p.guidance.told e }

/-- The ports after a post of a record to one station. -/
def Ports.toldTo (p : Ports) (e : EventRecord) : Station → Ports
  | .supervisor => { p with supervisor := p.supervisor.told e }
  | .lane => { p with lane := p.lane.told e }
  | .guidance => { p with guidance := p.guidance.told e }

theorem deliverMasked_eq (st : Station) (e : EventRecord) (s : State) :
    deliverMasked st e s = { s with ports := s.ports.toldTo e st } := by
  unfold deliverMasked
  rw [deliver_eq_setPort]
  by_cases h : (s.port st).mask.getLsbD e.kind.code
  · rw [if_pos h]
    cases st <;> simp_all [Ports.toldTo, Port.told, State.port, State.setPort]
  · rw [if_neg h]
    cases st <;> simp_all [Ports.toldTo, Port.told, State.port]

/-- An event posted changes the ports alone. -/
theorem post_eq (kind : EventKind) (subject a b : Nat) (s : State) :
    post kind subject a b s =
      { s with ports := s.ports.told { kind := kind, time := s.deckTime, subject := subject, a := a, b := b } } := by
  unfold post
  simp only [deliverMasked_eq]
  rfl

theorem postTo_eq (st : Station) (kind : EventKind) (subject a b : Nat) (s : State) :
    postTo st kind subject a b s =
      { s with ports := s.ports.toldTo { kind := kind, time := s.deckTime, subject := subject, a := a, b := b } st } :=
  deliverMasked_eq ..

section
variable (kind : EventKind) (subject a b n : Nat)

theorem post_modLevel (f : Level → Level) (s : State) :
    (post kind subject a b s).modLevel n f = post kind subject a b (s.modLevel n f) := by rw [post_eq, post_eq]; rfl

theorem post_modPair (f : RampPair → RampPair) (s : State) :
    (post kind subject a b s).modPair n f = post kind subject a b (s.modPair n f) := by rw [post_eq, post_eq]; rfl

theorem post_modZone (f : Zone → Zone) (s : State) :
    (post kind subject a b s).modZone n f = post kind subject a b (s.modZone n f) := by rw [post_eq, post_eq]; rfl

theorem post_modRow (f : Row → Row) (s : State) :
    (post kind subject a b s).modRow n f = post kind subject a b (s.modRow n f) := by rw [post_eq, post_eq]; rfl

theorem post_modFan (f : Fan → Fan) (s : State) :
    (post kind subject a b s).modFan n f = post kind subject a b (s.modFan n f) := by rw [post_eq, post_eq]; rfl

theorem post_presentCount (level : Nat) (s : State) :
    (post kind subject a b s).presentCount level = s.presentCount level := by rw [post_eq]; rfl

end

/-! ### The census (R40) -/

theorem timerDue_some {now e : Time} : timerDue now (some e) = Time.reached now e := rfl

theorem RampPair.isIdle_iff {p : RampPair} :
    p.isIdle = true ↔ p.filteredA = false ∧ p.filteredB = false ∧ p.position = 0 := by
  obtain ⟨cfg, a, b, position, spoiled, settle⟩ := p
  cases a <;> cases b <;> simp [RampPair.isIdle, RampPair.phase, phaseOf]

theorem rampsIdle_iff {level : Nat} :
    rampsIdle s level = true ↔
      ∀ p ∈ s.pairs, (p.2.cfg.upper = .level level ∨ p.2.cfg.lower = level) →
        p.2.filteredA = false ∧ p.2.filteredB = false ∧ p.2.position = 0 := by
  simp only [rampsIdle, List.all_eq_true, ← RampPair.isIdle_iff, PairCfg.bounds, Bool.or_eq_true, Bool.not_eq_true',
    Bool.or_eq_false_iff, decide_eq_false_iff_not, ← not_or, imp_iff_not_or]

/-- A level whose count is its present count does not drift (R42). -/
theorem Level.driftUpdated_of_present {now : Time} {l : Level} {present : Nat} (h : l.count = present) :
    l.driftUpdated now present = { l with drift := .idle } := by
  simp [Level.driftUpdated, distance, h]

theorem censusCheck_of_waiting {level : Nat} {l : Level} (hfind : s.levels.find level = some l)
    (h : l.pending = false ∨ rampsIdle s level = false) : censusCheck level s = s := by
  rcases h with h | h <;> simp [censusCheck, hfind, h]

/-- A pending census with idle ramps, carried out: the count takes the present count (R40). -/
theorem censusCheck_of_idle {level : Nat} {l : Level} (hfind : s.levels.find level = some l) (hpending : l.pending = true)
    (hidle : rampsIdle s level = true) :
    censusCheck level s =
      post .censusDone level l.count (s.presentCount level)
        (s.modLevel level fun l => { l with count := s.presentCount level, pending := false, drift := .idle }) := by
  have hdrift (f : Level → Level) (hf : (f l).count = s.presentCount level) :
      updateDrift level (post .censusDone level l.count (s.presentCount level) (s.modLevel level f)) =
        post .censusDone level l.count (s.presentCount level)
          (s.modLevel level fun l => { f l with drift := .idle }) := by
    have hpresent : (s.modLevel level f).presentCount level = s.presentCount level := rfl
    unfold updateDrift
    rw [post_presentCount, hpresent, post_modLevel, State.modLevel_modLevel]
    exact congrArg _ (modLevel_of_find hfind (Level.driftUpdated_of_present hf))
  simp only [censusCheck, hfind, hpending, hidle, Bool.and_self, if_true]
  exact hdrift _ rfl

/-! ### O38 -/

section
variable {level : Nat} {l : Level}

theorem doCensus_of_range (hrun : s.inRun = true) (h : 7 < level) : doCensus level s = refuse s .badArgument := by
  simp [doCensus, hrun, within_zero_eq_false_iff.2 h]

theorem doCensus_of_no_record (hrun : s.inRun = true) (h : level ≤ 7) (hfind : s.levels.find level = none) :
    doCensus level s = refuse s .notFound := by
  simp [doCensus, hrun, within_zero_eq_true_iff.2 h, Table.has, hfind]

theorem doCensus_of_pending (hrun : s.inRun = true) (h : level ≤ 7) (hfind : s.levels.find level = some l)
    (hpending : l.pending = true) : doCensus level s = done s (joinFields [1, 2] [1, l.count]) := by
  simp [doCensus, hrun, within_zero_eq_true_iff.2 h, Table.has, hfind, State.censusPending, State.levelCount, hpending]

theorem setPending_find (hfind : s.levels.find level = some l) :
    (setPending level s).levels.find level = some { l with pending := true } := by
  simp [setPending, hfind]

theorem doCensus_of_new (hrun : s.inRun = true) (h : level ≤ 7) (hfind : s.levels.find level = some l)
    (hpending : l.pending = false) :
    doCensus level s =
      done (settle s (censusCheck level (setPending level s)))
        (leBytes 1 (if (censusCheck level (setPending level s)).censusPending level then 0 else 2) ++
          leBytes 2 ((censusCheck level (setPending level s)).levelCount level)) := by
  simp [doCensus, hrun, within_zero_eq_true_iff.2 h, Table.has, hfind, State.censusPending, hpending]

theorem doCensus_of_busy (hrun : s.inRun = true) (h : level ≤ 7) (hfind : s.levels.find level = some l)
    (hpending : l.pending = false) (hbusy : rampsIdle s level = false) :
    doCensus level s = done (settle s (setPending level s)) (joinFields [1, 2] [0, l.count]) := by
  have hcheck : censusCheck level (setPending level s) = setPending level s :=
    censusCheck_of_waiting (setPending_find hfind) (.inr hbusy)
  rw [doCensus_of_new hrun h hfind hpending, hcheck]
  simp [State.censusPending, State.levelCount, setPending_find hfind]

theorem doCensus_of_idle (hrun : s.inRun = true) (h : level ≤ 7) (hfind : s.levels.find level = some l)
    (hpending : l.pending = false) (hidle : rampsIdle s level = true) :
    doCensus level s =
      done
        (settle s
          (post .censusDone level l.count (s.presentCount level)
            (s.modLevel level fun l => { l with count := s.presentCount level, pending := false, drift := .idle })))
        (joinFields [1, 2] [2, s.presentCount level]) := by
  have hcheck : censusCheck level (setPending level s) =
      post .censusDone level l.count (s.presentCount level)
        (s.modLevel level fun l => { l with count := s.presentCount level, pending := false, drift := .idle }) := by
    rw [censusCheck_of_idle (setPending_find hfind) rfl hidle]
    unfold setPending
    rw [State.modLevel_modLevel]
    rfl
  rw [doCensus_of_new hrun h hfind hpending, hcheck]
  simp [State.censusPending, State.levelCount, (post_within _ _ _ _ _).levels_eq, hfind]

end

/-- Settles O38: the command by the level it names, each timer at its expiry. -/
theorem censusIsTaken : Obligations.CensusIsTaken := by
  unfold Obligations.CensusIsTaken
  refine ⟨fun s tag level h hrun => ?command, fun s hrun => ⟨fun hdue => ?minute, fun e hstart hdue => ?start,
    fun level l started hfind hdrift hdue => ?drift⟩⟩
  case command =>
    intro idle
    have answered {t' : State} {contents : List Byte} {status : Status}
        (he : doCensus level s = (t', [(status, contents)])) :
        exec (.census .supervisor tag level) s = replies s .supervisor tag 0x29 status contents t' :=
      exec_answers (c := .census level) rfl h rfl (by decide) rfl rfl he
    refine ⟨fun hlevel => answered (doCensus_of_range hrun hlevel),
      fun hlevel hfind => answered (doCensus_of_no_record hrun hlevel hfind),
      fun l hlevel hfind hpending => answered (doCensus_of_pending hrun hlevel hfind hpending),
      fun l hlevel hfind hpending hbusy => answered (doCensus_of_busy hrun hlevel hfind hpending ?_),
      fun l hlevel hfind hpending hidle => answered (doCensus_of_idle hrun hlevel hfind hpending (rampsIdle_iff.2 hidle))⟩
    exact Bool.eq_false_iff.2 fun hidle => hbusy (rampsIdle_iff.1 hidle)
  case minute =>
    refine (exec_running (f := fun s => if Time.reached s.deckTime s.censusMinute then settle s (censusMinute s) else s)
      hrun rfl).trans ?_
    simp only [hdue, if_true]
    rfl
  case start =>
    refine (exec_running (f := fun s => if timerDue s.deckTime s.censusStart then settle s (startCensus s) else s)
      hrun rfl).trans ?_
    simp only [hstart, timerDue_some, hdue, if_true, startCensus, Table.numbers_mapRecords]
    rfl
  case drift =>
    refine (exec_running (f := driftExpire level) hrun rfl).trans ?_
    simp only [driftExpire, hfind, Level.driftExpiry, hdrift, timerDue_some, hdue, if_true]

end Sys2Proof.Machine
end

section
/-! The light levels and the timers of rows (chapter 4); overrides and the timers of the air quality unit (chapter 5). -/

namespace Sys2Proof.Machine
variable {s t u : State}

/-! ### O39 -/

/-- The operands of SET_LIGHT_LEVELS as they are stored (R89). -/
theorem clampLight_eq (base active hold fade : Nat) :
    clampLight base active hold fade =
      { base := clamp 10 100 base, active := clamp (clamp 10 100 base) 100 active, hold := clamp 30 1800 hold,
        fade := clamp 1 50 fade } := rfl

theorem clamp_le {lo hi x : Nat} (h : lo ≤ hi) : clamp lo hi x ≤ hi := by
  rw [clamp_eq_ite h]
  split
  · exact h
  · split <;> omega

theorem lightTarget_iff {row n : Nat} : lightTarget row n = true ↔ row = 255 ∨ row = n := by simp [lightTarget]

/-- A row written by SET_LIGHT_LEVELS: its record takes the values, its request follows its light timer (R89). -/
theorem Row.rerequested_withLight (r : Row) (v : LightLevels) :
    ({ r with cfg := r.cfg.withLight v } : Row).rerequested =
      { r with
        cfg := { r.cfg with base := v.base, active := v.active, holdTime := v.hold }
        requested := if r.lightTimer = none then v.base else v.active } := by
  unfold Row.rerequested RowCfg.withLight
  cases r.lightTimer <;> rfl

section
variable {row base active hold fade : Nat}

/-- Whether SET_LIGHT_LEVELS has a row to write. -/
def lightTargets (s : State) (row : Nat) : Bool := if row = 255 then !s.rows.isEmpty else s.rows.has row

theorem lightTargets_iff : lightTargets s row = true ↔ if row = 255 then s.rows ≠ [] else (s.rows.find row).isSome = true := by
  unfold lightTargets Table.has
  split <;> simp

theorem doSetLightLevels_of_range (hw : s.writing = false) (hlow : 64 ≤ row) (hne : row ≠ 255) :
    doSetLightLevels row base active hold fade s = refuse s .badArgument := by
  simp [doSetLightLevels, hw, within_zero_eq_false_iff.2 (show 63 < row by omega), hne]

theorem lightRowFits (h : row ≤ 63 ∨ row = 255) : (within 0 63 row || decide (row = 255)) = true := by
  rcases h with h | h
  · simp [within_zero_eq_true_iff.2 h]
  · simp [h]

theorem doSetLightLevels_of_none (hw : s.writing = false) (hfits : row ≤ 63 ∨ row = 255)
    (hthere : lightTargets s row = false) : doSetLightLevels row base active hold fade s = refuse s .notFound := by
  unfold lightTargets at hthere
  simp only [doSetLightLevels, hw, lightRowFits hfits, hthere, checked_cons]
  rfl

theorem doSetLightLevels_of_some (hw : s.writing = false) (hfits : row ≤ 63 ∨ row = 255)
    (hthere : lightTargets s row = true) :
    doSetLightLevels row base active hold fade s =
      (settle s (writeLight row (clampLight base active hold fade) s),
        [(clampedStatus
            (decide ((clampLight base active hold fade).base ≠ base) ||
              decide ((clampLight base active hold fade).active ≠ active) ||
              decide ((clampLight base active hold fade).hold ≠ hold) ||
              decide ((clampLight base active hold fade).fade ≠ fade)),
          joinFields [1, 1, 1, 2, 1]
            [row, (clampLight base active hold fade).base, (clampLight base active hold fade).active,
             (clampLight base active hold fade).hold, (clampLight base active hold fade).fade])]) := by
  unfold lightTargets at hthere
  simp only [doSetLightLevels, hw, lightRowFits hfits, hthere, checked_cons, checked_nil, answer, joinFields_cons,
    joinFields_nil, List.append_nil, List.append_assoc]
  rfl

end

/-- The rows in force as SET_LIGHT_LEVELS writes them (R89). -/
theorem lightRows_eq (row : Nat) (v : LightLevels) (rows : Table Row) :
    (rows.mapRecords fun n r =>
        if lightTarget row n then ({ r with cfg := r.cfg.withLight v } : Row).rerequested else r) =
      rows.mapRecords fun n r =>
        if row = 255 ∨ row = n then
          { r with
            cfg := { r.cfg with base := v.base, active := v.active, holdTime := v.hold }
            requested := if r.lightTimer = none then v.base else v.active }
        else r := by
  simp only [Row.rerequested_withLight, lightTarget_iff]

theorem writeLight_of_run (row : Nat) (v : LightLevels) (hrun : s.inRun = true) :
    writeLight row v s =
      { s with
        fade := v.fade
        rows := s.rows.mapRecords fun n r =>
          if row = 255 ∨ row = n then
            { r with
              cfg := { r.cfg with base := v.base, active := v.active, holdTime := v.hold }
              requested := if r.lightTimer = none then v.base else v.active }
          else r } := by
  unfold writeLight
  rw [if_pos hrun, lightRows_eq]

theorem writeLight_of_config (row : Nat) (v : LightLevels) (hrun : s.inRun = false) :
    writeLight row v s =
      { s with
        fade := v.fade
        rows := s.rows.mapRecords fun n r =>
          if row = 255 ∨ row = n then
            { r with
              cfg := { r.cfg with base := v.base, active := v.active, holdTime := v.hold }
              requested := if r.lightTimer = none then v.base else v.active }
          else r
        control :=
          { s.control with
            working := some { s.workingCopy with
              rows := s.workingCopy.rows.mapRecords fun n c =>
                if (row = 255 ∨ row = n) ∧ (s.rows.find n).isSome = true then
                  { c with base := v.base, active := v.active, holdTime := v.hold }
                else c } } } := by
  unfold writeLight
  rw [if_neg (by simp [hrun]), lightRows_eq]
  simp only [Bool.and_eq_true, lightTarget_iff]
  rfl

/-- Settles O39: the two refusals, and the values as the clamps store them, by the mode. -/
theorem lightLevelsWritten : Obligations.LightLevelsWritten := by
  unfold Obligations.LightLevelsWritten
  intro s tag row base active hold fade h hw
  rw [← clamp_eq_ite (by decide : 10 ≤ 100), ← clamp_eq_ite (by decide : 30 ≤ 1800), ← clamp_eq_ite (by decide : 1 ≤ 50)]
  intro b
  rw [← clamp_eq_ite (show b ≤ 100 from clamp_le (by decide))]
  intro a hd f written s1 s2 there
  have answered {t' : State} {contents : List Byte} {status : Status}
      (he : doSetLightLevels row base active hold fade s = (t', [(status, contents)])) :
      exec (.setLightLevels .supervisor tag row base active hold fade) s =
        replies s .supervisor tag 0x2A status contents t' :=
    exec_answers (c := .setLightLevels row base active hold fade) rfl h rfl (by decide) rfl rfl he
  have hthere : lightTargets s row = true ↔ there := lightTargets_iff
  refine ⟨fun hlow hne => answered (doSetLightLevels_of_range hw hlow hne), fun hfits hnone =>
    answered (doSetLightLevels_of_none hw hfits (Bool.eq_false_iff.2 fun hsome => hnone (hthere.1 hsome))),
    fun hfits hsome => ?_⟩
  have hstate : settle s (writeLight row (clampLight base active hold fade) s) = if s.inRun then settle s s1 else s2 := by
    cases hmode : s.inRun with
    | true => rw [if_pos rfl, writeLight_of_run row _ hmode]; rfl
    | false =>
      rw [if_neg Bool.false_ne_true, writeLight_of_config row _ hmode]
      exact settle_config s s2 hmode
  have hstatus : clampedStatus (decide (b ≠ base) || decide (a ≠ active) || decide (hd ≠ hold) || decide (f ≠ fade)) =
      if b = base ∧ a = active ∧ hd = hold ∧ f = fade then .done else .doneClamped :=
    clampedStatus_ne _ _ (by simp [and_assoc])
  rw [← hstate, ← hstatus]
  exact answered (doSetLightLevels_of_some hw hfits (hthere.2 hsome))

/-! ### O40 -/

section
variable {n : Nat} {r : Row}

theorem lightExpire_of_due {e : Time} (hfind : s.rows.find n = some r) (htimer : r.lightTimer = some e)
    (hdue : Time.reached s.deckTime e = true) :
    lightExpire n s = settle s (s.modRow n fun r => { r with requested := r.cfg.base, lightTimer := none }) := by
  simp [lightExpire, hfind, htimer, timerDue_some, hdue]

theorem riseExpire_of_due {e : Time} (hfind : s.rows.find n = some r) (hstep : r.step = .rising e)
    (hdue : Time.reached s.deckTime e = true) : riseExpire n s = rowRise n s := by
  simp [riseExpire, hfind, hstep, hdue]

theorem fadeExpire_of_due {e : Time} (hfind : s.rows.find n = some r) (hstep : r.step = .fading e)
    (hdue : Time.reached s.deckTime e = true) :
    fadeExpire n s = retryOnDecrease s (s.modRow n (Row.faded s.deckTime s.fade)) := by
  simp [fadeExpire, hfind, hstep, hdue]

theorem headroom_iff {draw next floorDraw : Nat} :
    headroom s draw next floorDraw = true ↔
      s.totalDraw - draw + next ≤ max s.allowance s.supply.floorTotal ∨ next ≤ floorDraw := by
  simp only [headroom, Bool.or_eq_true, decide_eq_true_eq]

theorem mayRise_iff {draw next floorDraw : Nat} :
    mayRise s draw next floorDraw = true ↔
      next ≤ draw ∨ s.totalDraw - draw + next ≤ max s.allowance s.supply.floorTotal ∨ next ≤ floorDraw := by
  simp only [mayRise, Bool.or_eq_true, decide_eq_true_eq, headroom_iff]

/-- Whether the rise step of a row may be taken (R80). -/
def State.rowMayRise (s : State) (r : Row) : Bool :=
  mayRise s (s.rowDraw r) (s.rowPower r (r.commanded + min 5 (r.granted - r.commanded))) (s.rowFloorDraw r)

theorem rowRise_of_fits (hfind : s.rows.find n = some r) (hfits : s.rowMayRise r = true) :
    rowRise n s = s.modRow n fun x => x.afterRise s.deckTime (r.commanded + min 5 (r.granted - r.commanded)) := by
  unfold State.rowMayRise at hfits
  simp only [rowRise, hfind, hfits, if_true]

theorem rowRise_of_not_fits (hfind : s.rows.find n = some r) (hfits : s.rowMayRise r = false) :
    rowRise n s = s.modRow n fun r => { r with step := .riseHeld } := by
  unfold State.rowMayRise at hfits
  simp [rowRise, hfind, hfits]

end

theorem retryOnDecrease_eq (s t : State) :
    retryOnDecrease s t = if t.inRun = true ∧ t.totalDraw < s.totalDraw then retryHeld t else t := by
  simp only [retryOnDecrease, Bool.and_eq_true, decide_eq_true_eq]

/-- Settles O40: each timer by the step it takes, the rise by the test of R80. -/
theorem rowTimersStep : Obligations.RowTimersStep := by
  unfold Obligations.RowTimersStep
  refine fun s n r hrun hfind => ⟨fun e htimer hdue => ?light, fun e hstep hdue => ?rise, fun e hstep hdue => ?fade⟩
  case light => rw [exec_running (f := lightExpire n) hrun rfl, lightExpire_of_due hfind htimer hdue]
  case rise =>
    have hexec : exec (.riseTimerExpiry n) s = .next (rowRise n s) := by
      rw [exec_running (f := riseExpire n) hrun rfl, riseExpire_of_due hfind hstep hdue]
    have hfits : s.rowMayRise r = true ↔ _ := mayRise_iff
    refine ⟨fun h => ?_, fun h => ?_⟩
    · rw [hexec, rowRise_of_fits hfind (hfits.2 h)]
      rfl
    · rw [hexec, rowRise_of_not_fits hfind (Bool.eq_false_iff.2 fun h' => h (hfits.1 h'))]
  case fade =>
    rw [exec_running (f := fadeExpire n) hrun rfl, fadeExpire_of_due hfind hstep hdue, retryOnDecrease_eq]
    rfl

/-! ### O41 -/

section
variable {zone demand duration : Nat} {z : Zone}

theorem doVentOverride_of_range (hrun : s.inRun = true) (h : 11 < zone) :
    doVentOverride zone demand duration s = refuse s .badArgument := by
  simp [doVentOverride, hrun, within_zero_eq_false_iff.2 h]

theorem doVentOverride_of_no_record (hrun : s.inRun = true) (h : zone ≤ 11) (hfind : s.zones.find zone = none) :
    doVentOverride zone demand duration s = refuse s .notFound := by
  simp [doVentOverride, hrun, within_zero_eq_true_iff.2 h, Table.has, hfind]

theorem doVentOverride_of_cancel (hrun : s.inRun = true) (h : zone ≤ 11) (hfind : s.zones.find zone = some z) :
    doVentOverride zone demand 0 s = done (settle s (cancelOverride zone s)) (joinFields [1, 1, 2] [zone, 0, 0]) := by
  simp [doVentOverride, hrun, within_zero_eq_true_iff.2 h, Table.has, hfind]

theorem doVentOverride_of_set (hrun : s.inRun = true) (h : zone ≤ 11) (hfind : s.zones.find zone = some z)
    (hduration : 0 < duration) :
    doVentOverride zone demand duration s =
      answer
        (settle s
          (s.modZone zone fun z =>
            { z with
              override := some { demand := clamp 1 100 demand, expires := Time.plus s.deckTime (min 14400 duration * 10) } }))
        (clampedStatus (decide (clamp 1 100 demand ≠ demand) || decide (min 14400 duration ≠ duration)))
        (joinFields [1, 1, 2] [zone, clamp 1 100 demand, min 14400 duration]) := by
  simp [doVentOverride, hrun, within_zero_eq_true_iff.2 h, Table.has, hfind, hduration.ne']

theorem cancelOverride_of_none (hfind : s.zones.find zone = some z) (h : z.override = none) : cancelOverride zone s = s := by
  simp [cancelOverride, hfind, h]

theorem cancelOverride_of_some {o : Override} (hfind : s.zones.find zone = some z) (h : z.override = some o) :
    cancelOverride zone s = post .overrideEnded zone 1 o.demand (s.modZone zone fun z => { z with override := none }) := by
  simp [cancelOverride, hfind, h]

end

theorem min_eq_ite (cap x : Nat) : min cap x = if cap < x then cap else x := by
  split <;> omega

/-- The minute of a zone, field by field (R104). -/
theorem Zone.minute_eq (z : Zone) :
    z.minute =
      { z with
        coSum := 0, no2Sum := 0, samples := 0
        coRing := if z.failsafe then z.coRing else
          lastN 15 (z.coRing ++ [if z.samples = 0 then z.coInst else z.coSum / z.samples])
        no2Ring := if z.failsafe then z.no2Ring else
          lastN 15 (z.no2Ring ++ [if z.samples = 0 then z.no2Inst else z.no2Sum / z.samples]) } := by
  unfold Zone.minute
  cases z.failsafe <;> rfl

/-- Settles O41: the command by its operands and the override that runs, each timer at its expiry. -/
theorem overridesAndAirTimers : Obligations.OverridesAndAirTimers := by
  unfold Obligations.OverridesAndAirTimers
  refine ⟨fun s tag zone demand duration h hrun => ?command, fun s hrun => ⟨fun hdue => ?minute,
    fun zone z e hfind hdwell hdue => ?dwell, fun zone z o hfind hover hdue => ?override⟩⟩
  case command =>
    rw [← clamp_eq_ite (by decide : 1 ≤ 100), ← min_eq_ite]
    intro d t
    have answered {duration : Nat} {t' : State} {contents : List Byte} {status : Status}
        (he : doVentOverride zone demand duration s = (t', [(status, contents)])) :
        exec (.ventOverride .supervisor tag zone demand duration) s =
          replies s .supervisor tag 0x23 status contents t' :=
      exec_answers (c := .ventOverride zone demand duration) rfl h rfl (by decide) rfl rfl he
    refine ⟨fun hzone => answered (doVentOverride_of_range hrun hzone),
      fun hzone hfind => answered (doVentOverride_of_no_record hrun hzone hfind),
      fun z hzone hfind hpos => ?set, fun z o hzone hfind hover => ?cancel, fun z hzone hfind hover => ?idle⟩
    case set =>
      have hstatus : clampedStatus (decide (d ≠ demand) || decide (t ≠ duration)) =
          if d = demand ∧ t = duration then .done else .doneClamped := clampedStatus_ne _ _ (by simp)
      rw [← hstatus]
      exact answered (doVentOverride_of_set hrun hzone hfind hpos)
    case cancel =>
      rw [← cancelOverride_of_some hfind hover]
      exact answered (doVentOverride_of_cancel hrun hzone hfind)
    case idle =>
      refine (answered (doVentOverride_of_cancel hrun hzone hfind)).trans ?_
      rw [cancelOverride_of_none hfind hover]
  case minute =>
    refine (exec_running (f := fun s => if Time.reached s.deckTime s.airMinute then settle s (airMinute s) else s)
      hrun rfl).trans ?_
    simp only [hdue, if_true, airMinute, Zone.minute_eq, Table.numbers_mapRecords]
    rfl
  case dwell =>
    refine (exec_running (f := fun s => settle s (dwellExpire zone s)) hrun rfl).trans ?_
    simp only [dwellExpire, hfind, hdwell, timerDue_some, hdue, if_true]
  case override =>
    refine (exec_running (f := fun s => settle s (overrideExpire zone s)) hrun rfl).trans ?_
    simp only [overrideExpire, hfind, hover, hdue, if_true]

end Sys2Proof.Machine
end

section
/-! The tables of allocation, air quality and traffic (sections 3.4, 5.4 and 5.7). -/

namespace Sys2Proof.Machine
variable {s t u : State}

/-! ### O28 -/

theorem all_le_iff {bound : Nat} {l : List Nat} : l.all (fun e => decide (e ≤ bound)) = true ↔ ∀ e ∈ l, e ≤ bound := by simp

theorem all_le_false_iff {bound : Nat} {l : List Nat} :
    l.all (fun e => decide (e ≤ bound)) = false ↔ ∃ e ∈ l, bound < e := by simp

section
variable {entries penalties : List Nat}

theorem doSetClassTable_of_fits (hrun : s.inRun = false) (hw : s.writing = false) (h : ∀ e ∈ entries, e ≤ 2) :
    doSetClassTable entries s = done (allocationPass (s.setGuidance { s.guidance with classTable := entries })) [] := by
  simp only [doSetClassTable, checked_cons, checked_nil, hrun, hw, all_le_iff.2 h]
  rfl

theorem doSetClassTable_of_not_fits (hrun : s.inRun = false) (hw : s.writing = false) (h : ∃ e ∈ entries, 2 < e) :
    doSetClassTable entries s = refuse s .badArgument := by
  simp only [doSetClassTable, checked_cons, checked_nil, hrun, hw, all_le_false_iff.2 h]
  rfl

theorem doSetPenalty_of_fits (hrun : s.inRun = false) (hw : s.writing = false) (h : ∀ e ∈ penalties, e ≤ 65534) :
    doSetPenalty penalties s = done (allocationPass (s.setGuidance { s.guidance with penalties := penalties })) [] := by
  simp only [doSetPenalty, checked_cons, checked_nil, hrun, hw, all_le_iff.2 h]
  rfl

theorem doSetPenalty_of_not_fits (hrun : s.inRun = false) (hw : s.writing = false) (h : ∃ e ∈ penalties, 65534 < e) :
    doSetPenalty penalties s = refuse s .badArgument := by
  simp only [doSetPenalty, checked_cons, checked_nil, hrun, hw, all_le_false_iff.2 h]
  rfl

end

section
variable {wait hold flag : Nat}

theorem doSetGuidanceTimes_of_fits (hw : s.writing = false) (h : flag ≤ 1) :
    doSetGuidanceTimes wait hold flag s =
      answer
        { s with
          guidance :=
            { s.guidance with
              maxWait := clamp 60 3600 wait, holdTime := clamp 60 900 hold, substitution := decide (flag = 1) } }
        (clampedStatus (decide (clamp 60 3600 wait ≠ wait) || decide (clamp 60 900 hold ≠ hold)))
        (joinFields [2, 2, 1] [clamp 60 3600 wait, clamp 60 900 hold, flag]) := by
  simp only [doSetGuidanceTimes, checked_cons, checked_nil, hw, within_zero_eq_true_iff.2 h, joinFields_cons, joinFields_nil,
    List.append_nil, List.append_assoc]
  rfl

theorem doSetGuidanceTimes_of_not_fits (hw : s.writing = false) (h : 1 < flag) :
    doSetGuidanceTimes wait hold flag s = refuse s .badArgument := by
  simp [doSetGuidanceTimes, hw, within_zero_eq_false_iff.2 h]

end

section
variable {stages : List StageRow} {hysteresis dwell : Nat}

theorem doSetStageTable_of_fits (hrun : s.inRun = false) (hw : s.writing = false)
    (h : stageTableFits stages hysteresis dwell = true) :
    doSetStageTable stages hysteresis dwell s =
      done
        (forEach (s.zones.map (·.1)) evaluateZone
          { s with stageTable := { stages := stages, hysteresis := hysteresis, dwell := dwell } })
        [] := by
  simp only [doSetStageTable, checked_cons, checked_nil, hrun, hw, h]
  rfl

theorem doSetStageTable_of_not_fits (hrun : s.inRun = false) (hw : s.writing = false)
    (h : stageTableFits stages hysteresis dwell = false) :
    doSetStageTable stages hysteresis dwell s = refuse s .badArgument := by
  simp [doSetStageTable, hrun, hw, h]

/-- The stage tables SET_STAGE_TABLE accepts, stage by stage (R110). -/
theorem fourStagesFit_iff {s1 s2 s3 s4 : StageRow} :
    stageTableFits [s1, s2, s3, s4] hysteresis dwell = true ↔
      stageInRange s1 = true ∧ stageInRange s2 = true ∧ stageInRange s3 = true ∧ stageInRange s4 = true ∧
        stageNotBelow s2 s1 = true ∧ stageNotBelow s3 s2 = true ∧ stageNotBelow s4 s3 = true ∧
        hysteresis ≤ 50 ∧ 30 ≤ dwell ∧ dwell ≤ 1800 := by
  simp [stageTableFits_iff, stagesRise, and_assoc]

end

section
variable {level : Nat} {slots : List SlotOperand}

/-- The operands SET_TRAFFIC_TABLE takes (R116). -/
def trafficFits (level : Nat) (slots : List SlotOperand) : Bool := within 0 7 level && slots.all slotFits

theorem slotFits_iff {x : SlotOperand} :
    slotFits x = true ↔ x.presence = 0 ∨ (x.presence = 1 ∧ x.lower ≤ x.upper ∧ (x.demand ≤ 100 ∨ x.demand = 255)) := by
  simp [slotFits, and_assoc]

theorem trafficFits_iff :
    trafficFits level slots = true ↔
      level ≤ 7 ∧ ∀ x ∈ slots, x.presence = 0 ∨ (x.presence = 1 ∧ x.lower ≤ x.upper ∧ (x.demand ≤ 100 ∨ x.demand = 255)) := by
  simp only [trafficFits, Bool.and_eq_true, within_zero_eq_true_iff, List.all_eq_true, slotFits_iff]

/-- Whether the level of a SET_TRAFFIC_TABLE has a record: in force, in CONFIG mode in the working copy. -/
def trafficLevelThere (s : State) (level : Nat) : Bool :=
  if s.inRun then s.levels.has level else s.workingCopy.levels.has level

theorem doSetTrafficTable_eq (hw : s.writing = false) :
    doSetTrafficTable level slots s =
      if trafficFits level slots then
        if trafficLevelThere s level then done (settle s (writeTraffic level (slots.map slotRange) s)) []
        else refuse s .notFound
      else refuse s .badArgument := by
  unfold doSetTrafficTable
  rw [show (within 0 7 level && slots.all slotFits) = trafficFits level slots from rfl,
    show (if s.inRun then s.levels.has level else s.workingCopy.levels.has level) = trafficLevelThere s level from rfl]
  cases trafficFits level slots <;> cases trafficLevelThere s level <;> simp [hw]

theorem writeTraffic_eq (table : List (Option TrafficRange)) :
    writeTraffic level table s =
      if s.inRun then
        { s with levels := s.levels.modify level fun l => { l with cfg := { l.cfg with traffic := table } } }
      else
        { s with
          levels := s.levels.modify level fun l => { l with cfg := { l.cfg with traffic := table } }
          control :=
            { s.control with
              working := some
                { s.workingCopy with
                  levels := s.workingCopy.levels.modify level fun c => { c with traffic := table } } } } := rfl

end

/-- Settles O28: each table by its range test, the traffic table by the mode. -/
theorem tablesWritten : Obligations.TablesWritten := by
  unfold Obligations.TablesWritten
  refine ⟨fun s tag h hw => ⟨fun entries hlen hrun => ⟨fun hfits => ?classTable, fun hfits => ?classTableRefused⟩,
    fun penalties hlen hrun => ⟨fun hfits => ?penalty, fun hfits => ?penaltyRefused⟩, fun wait hold flag => ?times⟩,
    fun s tag h hw => ⟨fun s1 s2 s3 s4 hysteresis dwell hrun => ?stages, fun level slots hlen => ?traffic⟩⟩
  case classTable =>
    exact exec_answers (c := .setClassTable entries) rfl h rfl (by decide) rfl (by simp [Command.lengthFits, hlen])
      (doSetClassTable_of_fits hrun hw hfits)
  case classTableRefused =>
    exact exec_answers (c := .setClassTable entries) rfl h rfl (by decide) rfl (by simp [Command.lengthFits, hlen])
      (doSetClassTable_of_not_fits hrun hw hfits)
  case penalty =>
    exact exec_answers (c := .setPenalty penalties) rfl h rfl (by decide) rfl (by simp [Command.lengthFits, hlen])
      (doSetPenalty_of_fits hrun hw hfits)
  case penaltyRefused =>
    exact exec_answers (c := .setPenalty penalties) rfl h rfl (by decide) rfl (by simp [Command.lengthFits, hlen])
      (doSetPenalty_of_not_fits hrun hw hfits)
  case times =>
    rw [← clamp_eq_ite (by decide : 60 ≤ 3600), ← clamp_eq_ite (by decide : 60 ≤ 900)]
    intro w hd
    refine ⟨fun hflag => ?_, fun hflag => ?_⟩
    · rw [← clampedStatus_ne (decide (w ≠ wait) || decide (hd ≠ hold)) (w = wait ∧ hd = hold) (by simp)]
      exact exec_answers (c := .setGuidanceTimes wait hold flag) rfl h rfl (by decide) rfl rfl
        (doSetGuidanceTimes_of_fits hw hflag)
    · exact exec_answers (c := .setGuidanceTimes wait hold flag) rfl h rfl (by decide) rfl rfl
        (doSetGuidanceTimes_of_not_fits hw hflag)
  case stages =>
    intro inRange below fits
    have hfits : stageTableFits [s1, s2, s3, s4] hysteresis dwell = true ↔ fits := by
      simp only [fourStagesFit_iff, stageInRange_iff, stageNotBelow_iff, fits, inRange, below, and_assoc]
    refine ⟨fun hf => ?_, fun hf => ?_⟩
    · exact exec_answers (c := .setStageTable [s1, s2, s3, s4] hysteresis dwell) rfl h rfl (by decide) rfl rfl
        (doSetStageTable_of_fits hrun hw (hfits.2 hf))
    · exact exec_answers (c := .setStageTable [s1, s2, s3, s4] hysteresis dwell) rfl h rfl (by decide) rfl rfl
        (doSetStageTable_of_not_fits hrun hw (Bool.eq_false_iff.2 fun h' => hf (hfits.1 h')))
  case traffic =>
    intro fits table s1 s2 there
    have hfits : trafficFits level slots = true ↔ fits := trafficFits_iff
    have answered {t' : State} {contents : List Byte} {status : Status}
        (he : doSetTrafficTable level slots s = (t', [(status, contents)])) :
        exec (.setTrafficTable .supervisor tag level slots) s = replies s .supervisor tag 0x22 status contents t' :=
      exec_answers (c := .setTrafficTable level slots) rfl h rfl (by decide) rfl (by simp [Command.lengthFits, hlen]) he
    have hstate : settle s (writeTraffic level (slots.map slotRange) s) = if s.inRun then settle s s1 else s2 := by
      rw [writeTraffic_eq]
      cases hmode : s.inRun with
      | true => rfl
      | false => exact settle_config s s2 hmode
    refine ⟨fun hf hthere => answered ?_, fun hf hthere => answered ?_, fun hf => answered ?_⟩
    · rw [doSetTrafficTable_eq hw, if_pos (hfits.2 hf), if_pos (show trafficLevelThere s level = true from hthere), hstate]
      rfl
    · rw [doSetTrafficTable_eq hw, if_pos (hfits.2 hf),
        if_neg (Bool.eq_false_iff.1 (show trafficLevelThere s level = false from hthere))]
      rfl
    · rw [doSetTrafficTable_eq hw, if_neg fun h' => hf (hfits.1 h')]
      rfl

end Sys2Proof.Machine
end

section
/-! The fans: their power, their timers and inputs, and the commands that act on them (chapter 6); the division of the
allowance (section 7.3). -/

namespace Sys2Proof.Machine
variable {s t u : State}

/-! ### O49 -/

theorem FanCfg.power_zero (c : FanCfg) : c.power 0 = 0 := by simp [FanCfg.power, ceilDiv]

theorem FanCfg.power_spec (c : FanCfg) (g : Nat) :
    c.rated * g ^ 3 ≤ c.power g * 1000000 ∧ c.power g * 1000000 < c.rated * g ^ 3 + 1000000 :=
  ceilDiv_spec _ _ (by decide)

theorem FanCfg.power_mono (c : FanCfg) {g h : Nat} (hle : g ≤ h) : c.power g ≤ c.power h :=
  ceilDiv_mono _ _ _ (Nat.mul_le_mul_left _ (Nat.pow_le_pow_left hle 3))

/-- Settles O49: the ceiling by its two bounds, its monotony by that of the cube, the figures by evaluation. -/
theorem fanPowerFollowsCube : Obligations.FanPowerFollowsCube := by
  unfold Obligations.FanPowerFollowsCube
  refine ⟨FanCfg.power_zero, FanCfg.power_spec, fun c g h hle => c.power_mono hle,
    fun f => ⟨rfl, rfl, fun hle => f.cfg.power_mono hle⟩, fun c => ⟨fun h => ?_, fun h => ?_, fun h => ?_⟩⟩
  · simp [FanCfg.power, ceilDiv, h]
  · simp [FanCfg.power, ceilDiv, h]
  · simp [FanCfg.power, ceilDiv, h]

/-! ### O50 -/

theorem Fan.scaled_zero_le_floor (f : Fan) : f.scaled 0 ≤ f.floor := by
  simp only [Fan.scaled, Nat.mul_zero, Nat.zero_div, Nat.max_zero, ite_self]
  split
  · exact le_rfl
  · exact Nat.zero_le _

theorem Row.scaled_zero (r : Row) : r.scaled 0 = r.cfg.base := by simp [Row.scaled]

theorem sumOf_eq_zero {α : Type} {f : α → Nat} {l : List α} (h : ∀ x ∈ l, f x = 0) : sumOf f l = 0 := by
  induction l with
  | nil => rfl
  | cons x l ih => rw [sumOf_cons, h x (by simp), ih fun y hy => h y (by simp [hy])]

/-- At scale 0 no load draws more than at its floor (R153). -/
theorem fanExtra_zero (s : State) (cls : Nat) : fanExtra s cls 0 = 0 :=
  sumOf_eq_zero fun p _ => Nat.sub_eq_zero_of_le (p.2.cfg.power_mono p.2.scaled_zero_le_floor)

theorem rowExtra_zero (s : State) : rowExtra s 0 = 0 :=
  sumOf_eq_zero fun p _ => by rw [Row.scaled_zero]; exact Nat.sub_self _

theorem divide_of_short (h : s.allowance ≤ s.floorSum) : divide s = { floorTotal := s.floorSum, budget := 0, scales := none } :=
  if_pos h

/-- The scale of each class in a division that is not short (R153). -/
def State.scale1 (s : State) : Nat := largestScale (fanExtra s 1) (s.allowance - s.floorSum) 256

def State.scale2 (s : State) : Nat :=
  largestScale (rowExtra s) (s.allowance - s.floorSum - fanExtra s 1 s.scale1) 256

def State.scale3 (s : State) : Nat :=
  largestScale (fanExtra s 3) (s.allowance - s.floorSum - fanExtra s 1 s.scale1 - rowExtra s s.scale2) 256

theorem divide_of_enough (h : s.floorSum < s.allowance) :
    divide s =
      { floorTotal := s.floorSum
        budget := s.allowance - s.floorSum - fanExtra s 1 s.scale1 - rowExtra s s.scale2 - fanExtra s 3 s.scale3
        scales := some (s.scale1, s.scale2, s.scale3) } := if_neg h.not_ge

/-- Settles O50: each class's scale is the largest that fits, as scale 0 always does. -/
theorem divisionTakesLargestScales : Obligations.DivisionTakesLargestScales := by
  unfold Obligations.DivisionTakesLargestScales
  intro s _ a largest
  have hspec (extra : Nat → Nat) (budget : Nat) (h0 : extra 0 = 0) : largest extra budget (largestScale extra budget 256) :=
    largestScale_spec extra budget 256 (by rw [h0]; exact Nat.zero_le _)
  exact ⟨divide_of_short, fun h => ⟨s.scale1, s.scale2, s.scale3, hspec _ _ (fanExtra_zero s 1), hspec _ _ (rowExtra_zero s),
    hspec _ _ (fanExtra_zero s 3), divide_of_enough h⟩⟩

/-! ### O48 -/

theorem Fan.isLoad_iff {f : Fan} : f.isLoad = true ↔ f.state ≠ .faulted ∧ f.state ≠ .isolated := by
  simp only [Fan.isLoad, Bool.and_eq_true, decide_eq_true_eq]

theorem Pins.withFault_getLsbD (p : Pins) (ch k : Fin 24) (asserted : Bool) :
    (p.withFault ch asserted).fanFault.getLsbD k = if k = ch then asserted else p.fanFault.getLsbD k := by
  have hbit : (1#24 <<< (ch : Nat)).getLsbD k = decide (k = ch) := by
    simp only [BitVec.getLsbD_shiftLeft, BitVec.getLsbD_one, Fin.ext_iff, k.isLt, decide_true, Bool.true_and]
    rw [Bool.eq_iff_iff]
    simp
    omega
  cases asserted with
  | true =>
    simp only [Pins.withFault, if_true, BitVec.getLsbD_or, hbit]
    split <;> simp_all
  | false =>
    simp only [Pins.withFault, Bool.false_eq_true, if_false, BitVec.getLsbD_and, BitVec.getLsbD_not, hbit, k.isLt]
    split <;> simp_all

section
variable {ch : Nat} {f : Fan}

theorem fanToFault_of_find (hfind : s.fans.find ch = some f) :
    fanToFault ch s =
      post .fanFault ch f.state.code f.commanded
        (s.modFan ch fun f =>
          { f with state := .faulted, commanded := 0, granted := 0, rampHeld := false, timer := none }) := by
  simp only [fanToFault, hfind]
  rfl

theorem faultAsserted_of_load (hfind : s.fans.find ch = some f) (h : f.isLoad = true) :
    faultAsserted ch s = leaveLoads s (fanToFault ch s) := by
  simp [faultAsserted, hfind, h]

theorem faultAsserted_of_not_load (hfind : s.fans.find ch = some f) (h : f.isLoad = false) : faultAsserted ch s = s := by
  simp [faultAsserted, hfind, h]

theorem faultAsserted_of_no_fan (hfind : s.fans.find ch = none) : faultAsserted ch s = s := by
  simp [faultAsserted, hfind]

end

/-- Settles O48: the input's bit, and the fan by whether it is a load. -/
theorem faultInputsFaultFans : Obligations.FaultInputsFaultFans := by
  unfold Obligations.FaultInputsFaultFans
  refine fun s ch hrun => ⟨⟨s.pins.withFault ch false, rfl, rfl, rfl, rfl, fun k => Pins.withFault_getLsbD _ _ _ _⟩,
    ⟨s.pins.withFault ch true, rfl, rfl, rfl, fun k => Pins.withFault_getLsbD _ _ _ _, ?_⟩⟩
  intro s1
  have hexec : exec (.fanFaultInputAsserted ch) s = .next (faultAsserted ch s1) :=
    congrArg Host.Outcome.next (whenRunning_of_running (s := s1) hrun)
  refine ⟨fun f hfind hfaulted hisolated => ?_, fun h => ?_⟩
  · rw [hexec, faultAsserted_of_load (s := s1) hfind (Fan.isLoad_iff.2 ⟨hfaulted, hisolated⟩),
      fanToFault_of_find (s := s1) hfind]
  · rcases h with hfind | ⟨f, hfind, hstate⟩
    · rw [hexec, faultAsserted_of_no_fan (s := s1) hfind]
    · have hload : f.isLoad = false := by rcases hstate with h | h <;> simp [Fan.isLoad, h]
      rw [hexec, faultAsserted_of_not_load (s := s1) hfind hload]

/-! ### O46 -/

section
variable {ch speed : Nat} {f : Fan}

theorem doClearFan_of_fit (hch : ch ≤ 23) (hfind : s.fans.find ch = some f) (hstate : f.state = .faulted)
    (hlow : s.pins.fanFault.getLsbD ch = false) : doClearFan ch s = done (fanReturn ch s) (leBytes 1 (returnCode s)) := by
  simp [doClearFan, within_zero_eq_true_iff.2 hch, hfind, hstate, hlow]

theorem doClearFan_of_unfit (hch : ch ≤ 23) (hfind : s.fans.find ch = some f)
    (h : ¬ (f.state = .faulted ∧ s.pins.fanFault.getLsbD ch = false)) :
    doClearFan ch s = answer s .refusedState (joinFields [1, 1] [f.state.code, bit (s.pins.fanFault.getLsbD ch)]) := by
  simp only [doClearFan, within_zero_eq_true_iff.2 hch, hfind, if_neg h, checked_cons, checked_nil, joinFields_cons,
    joinFields_nil, List.append_nil]
  rfl

theorem doRestoreFan_of_low (hch : ch ≤ 23) (hfind : s.fans.find ch = some f) (hstate : f.state = .isolated)
    (hlow : s.pins.fanFault.getLsbD ch = false) : doRestoreFan ch s = done (fanReturn ch s) (leBytes 1 (returnCode s)) := by
  simp only [doRestoreFan, within_zero_eq_true_iff.2 hch, hfind, if_pos hstate, hlow, checked_cons, checked_nil]
  rfl

theorem doRestoreFan_of_high (hch : ch ≤ 23) (hfind : s.fans.find ch = some f) (hstate : f.state = .isolated)
    (hhigh : s.pins.fanFault.getLsbD ch = true) : doRestoreFan ch s = done (fanToFault ch s) (leBytes 1 6) := by
  simp only [doRestoreFan, within_zero_eq_true_iff.2 hch, hfind, if_pos hstate, hhigh, checked_cons, checked_nil]
  rfl

theorem doRestoreFan_of_unfit (hch : ch ≤ 23) (hfind : s.fans.find ch = some f) (hstate : f.state ≠ .isolated) :
    doRestoreFan ch s = answer s .refusedState (leBytes 1 f.state.code) := by
  simp [doRestoreFan, within_zero_eq_true_iff.2 hch, hfind, hstate]

theorem doIsolateFan_of_isolated (hch : ch ≤ 23) (hfind : s.fans.find ch = some f) (hstate : f.state = .isolated) :
    doIsolateFan ch s = done s (leBytes 1 7) := by
  simp only [doIsolateFan, within_zero_eq_true_iff.2 hch, hfind, hstate, checked_cons, checked_nil]
  rfl

theorem doIsolateFan_of_other (hch : ch ≤ 23) (hfind : s.fans.find ch = some f) (hstate : f.state ≠ .isolated) :
    doIsolateFan ch s = done (leaveLoads s (s.modFan ch fun f => f.withdrawn .isolated)) (leBytes 1 f.state.code) := by
  simp [doIsolateFan, within_zero_eq_true_iff.2 hch, hfind, hstate]

theorem doManualFan_of_range (hrun : s.inRun = false) (h : 23 < ch ∨ 100 < speed) :
    doManualFan ch speed s = refuse s .badArgument := by
  have hfits : (within 0 23 ch && within 0 100 speed) = false := by
    rcases h with h | h <;> simp [within_zero_eq_false_iff.2 h]
  simp only [doManualFan, hrun, hfits, checked_cons]
  rfl

/-- The operands MANUAL_FAN takes. -/
theorem manualFits (hch : ch ≤ 23) (hspeed : speed ≤ 100) : (within 0 23 ch && within 0 100 speed) = true := by
  simp [within_zero_eq_true_iff.2 hch, within_zero_eq_true_iff.2 hspeed]

theorem doManualFan_of_no_record (hrun : s.inRun = false) (hch : ch ≤ 23) (hspeed : speed ≤ 100)
    (h : s.workingCopy.fans.has ch = false ∨ s.fans.find ch = none) : doManualFan ch speed s = refuse s .notFound := by
  simp only [doManualFan, hrun, manualFits hch hspeed, checked_cons, checked_nil]
  rcases h with h | h
  · simp [h, refuse, answer]
  · simp [h, refuse, answer]

theorem doManualFan_of_find (hrun : s.inRun = false) (hch : ch ≤ 23) (hspeed : speed ≤ 100)
    (hthere : s.workingCopy.fans.has ch = true) (hfind : s.fans.find ch = some f) :
    doManualFan ch speed s =
      if f.state = .held then
        answer
          (s.modFan ch fun x => { x with commanded := if speed = 0 then 0 else clamp f.cfg.start f.cfg.maxSpeed speed })
          (clampedStatus (decide ((if speed = 0 then 0 else clamp f.cfg.start f.cfg.maxSpeed speed) ≠ speed)))
          (leBytes 1 (if speed = 0 then 0 else clamp f.cfg.start f.cfg.maxSpeed speed))
      else answer s .refusedState (leBytes 1 f.state.code) := by
  simp only [doManualFan, hrun, manualFits hch hspeed, hthere, hfind, checked_cons, checked_nil]
  rfl

end

/-- Settles O46: each command by the state of its fan, MANUAL_FAN by its checks in order. -/
theorem fanServiceCommands : Obligations.FanServiceCommands := by
  unfold Obligations.FanServiceCommands
  refine ⟨fun s tag ch f h hch hfind => ?service, fun s tag ch speed h hrun => ?manual⟩
  case service =>
    intro low back out returned
    have hcode : returnCode s = if s.inRun then 0 else 8 := rfl
    have hreturned : fanReturn ch s = returned := rfl
    have clear {t' : State} {contents : List Byte} {status : Status} (he : doClearFan ch s = (t', [(status, contents)])) :
        exec (.clearFan .supervisor tag ch) s = replies s .supervisor tag 0x25 status contents t' :=
      exec_answers (c := .clearFan ch) rfl h rfl (by decide) rfl rfl he
    have isolate {t' : State} {contents : List Byte} {status : Status}
        (he : doIsolateFan ch s = (t', [(status, contents)])) :
        exec (.isolateFan .supervisor tag ch) s = replies s .supervisor tag 0x26 status contents t' :=
      exec_answers (c := .isolateFan ch) rfl h rfl (by decide) rfl rfl he
    have restore {t' : State} {contents : List Byte} {status : Status}
        (he : doRestoreFan ch s = (t', [(status, contents)])) :
        exec (.restoreFan .supervisor tag ch) s = replies s .supervisor tag 0x27 status contents t' :=
      exec_answers (c := .restoreFan ch) rfl h rfl (by decide) rfl rfl he
    refine ⟨fun hstate hlow => ?_, fun hunfit => clear (doClearFan_of_unfit hch hfind hunfit), fun hstate hlow => ?_,
      fun hstate hhigh => ?_, fun hstate => restore (doRestoreFan_of_unfit hch hfind hstate),
      fun hstate => isolate (doIsolateFan_of_isolated hch hfind hstate),
      fun hstate => isolate (doIsolateFan_of_other hch hfind hstate)⟩
    · rw [← hcode, ← hreturned]
      exact clear (doClearFan_of_fit hch hfind hstate hlow)
    · rw [← hcode, ← hreturned]
      exact restore (doRestoreFan_of_low hch hfind hstate hlow)
    · refine restore ((doRestoreFan_of_high hch hfind hstate (Bool.eq_true_of_not_eq_false hhigh)).trans ?_)
      rw [fanToFault_of_find hfind, hstate]
      rfl
  case manual =>
    have manual {t' : State} {contents : List Byte} {status : Status}
        (he : doManualFan ch speed s = (t', [(status, contents)])) :
        exec (.manualFan .supervisor tag ch speed) s = replies s .supervisor tag 0x28 status contents t' :=
      exec_answers (c := .manualFan ch speed) rfl h rfl (by decide) rfl rfl he
    refine ⟨fun f hch hspeed hthere hfind hstate hle => ?_, fun hrange => manual (doManualFan_of_range hrun hrange),
      fun hch hspeed hnone => manual (doManualFan_of_no_record hrun hch hspeed hnone),
      fun f hch hspeed hthere hfind hstate => ?_⟩
    · rw [← clamp_eq_ite hle]
      intro v
      rw [← clampedStatus_ne (decide (v ≠ speed)) (v = speed) (by simp)]
      exact manual ((doManualFan_of_find hrun hch hspeed hthere hfind).trans (if_pos hstate))
    · exact manual ((doManualFan_of_find hrun hch hspeed hthere hfind).trans (if_neg hstate))

end Sys2Proof.Machine
end

section
/-! The timers of fans and the reversal of a zone's fans (sections 6.5 to 6.7). -/

namespace Sys2Proof.Machine
variable {s t u : State}

/-! ### O47 -/

section
variable {ch speed : Nat} {f : Fan} {e : Time}

theorem fanRise_of_fits (hfind : s.fans.find ch = some f) (h : headroom s f.draw (f.cfg.power speed) f.floorDraw = true) :
    fanRise ch speed s = s.modFan ch fun f => f.afterRise s.deckTime speed := by
  simp [fanRise, hfind, h]

theorem fanRise_of_not_fits (hfind : s.fans.find ch = some f)
    (h : headroom s f.draw (f.cfg.power speed) f.floorDraw = false) :
    fanRise ch speed s = s.modFan ch fun f => { f with rampHeld := true, timer := none } := by
  simp [fanRise, hfind, h]

theorem Fan.afterRise_of_accelerating {now : Time} (hstate : f.state = .accelerating) :
    f.afterRise now speed =
      if speed < f.granted then
        { f with commanded := speed, rampHeld := false, timer := some (Time.plus now f.cfg.accel) }
      else { f with commanded := speed, rampHeld := false, state := .steady, timer := none } := by
  unfold Fan.afterRise
  rw [← hstate]

theorem fanStart_of_find (hfind : s.fans.find ch = some f) : fanStart ch s = fanRise ch f.cfg.start s := by
  simp [fanStart, hfind]

theorem accelerationExpire_of_due (hfind : s.fans.find ch = some f) (hstate : f.state = .accelerating)
    (htimer : f.timer = some e) (hdue : Time.reached s.deckTime e = true) :
    accelerationExpire ch s = fanRise ch (f.commanded + 1) s := by
  simp [accelerationExpire, fanAccelerate, hfind, hstate, htimer, timerDue_some, hdue]

theorem decelerationExpire_of_due (hfind : s.fans.find ch = some f) (hstate : f.state = .decelerating)
    (htimer : f.timer = some e) (hdue : Time.reached s.deckTime e = true) :
    decelerationExpire ch s = retryOnDecrease s (s.modFan ch (Fan.decelerated s.deckTime)) := by
  simp [decelerationExpire, hfind, hstate, htimer, timerDue_some, hdue]

theorem decelerationExpire_of_reversing (hfind : s.fans.find ch = some f) (hstate : f.state = .reversingDown)
    (htimer : f.timer = some e) (hdue : Time.reached s.deckTime e = true) :
    decelerationExpire ch s =
      retryOnDecrease s
        (s.modFan ch fun f => f.descend s.deckTime .reverseDwell (some (Time.plus s.deckTime (f.cfg.dwell * 10)))) := by
  simp [decelerationExpire, hfind, hstate, htimer, timerDue_some, hdue]

/-- The fan of a channel after a post of events is the fan of the channel. -/
theorem post_fans_find {kind : EventKind} {subject a b : Nat} :
    (post kind subject a b s).fans.find ch = s.fans.find ch := by rw [post_eq]

theorem dwellEnded_eq :
    dwellEnded ch f s =
      if s.dueDirection f = f.direction then
        s.modFan ch fun x => { x with direction := s.dueDirection f, state := .stopped, timer := none }
      else
        post .fanReversed ch (s.dueDirection f).code f.direction.code
          (s.modFan ch fun x => { x with direction := s.dueDirection f, state := .stopped, timer := none }) := rfl

theorem dwellEnded_find (hfind : s.fans.find ch = some f) :
    (dwellEnded ch f s).fans.find ch = some { f with direction := s.dueDirection f, state := .stopped, timer := none } := by
  rw [dwellEnded_eq]
  split
  · exact modFan_find _ hfind
  · rw [post_fans_find]
    exact modFan_find _ hfind

end

/-- Settles O47: each timer by the one step its fan takes. -/
theorem fanTimersStep : Obligations.FanTimersStep := by
  unfold Obligations.FanTimersStep
  intro s ch f e hrun hfind htimer hdue retried slower
  refine ⟨fun hstate => ?accelerate, fun hstate => ?decelerate, fun hstate => ?reverse, fun hstate => ?dwell⟩
  case accelerate =>
    intro draw fits
    have hexec : exec (.accelerationTimerExpiry ch) s = .next (fanRise ch (f.commanded + 1) s) := by
      rw [exec_running (f := accelerationExpire ch) hrun rfl, accelerationExpire_of_due hfind hstate htimer hdue]
    have hfits : headroom s f.draw (f.cfg.power (f.commanded + 1)) f.floorDraw = true ↔ fits := headroom_iff
    refine ⟨fun h => ?_, fun h => ?_⟩
    · rw [hexec, fanRise_of_fits hfind (hfits.2 h)]
      exact congrArg _ (modFan_of_find hfind (Fan.afterRise_of_accelerating hstate))
    · rw [hexec, fanRise_of_not_fits hfind (Bool.eq_false_iff.2 fun h' => h (hfits.1 h'))]
      exact congrArg _ (modFan_of_find hfind rfl)
  case decelerate =>
    rw [exec_running (f := decelerationExpire ch) hrun rfl, decelerationExpire_of_due hfind hstate htimer hdue,
      retryOnDecrease_eq, modFan_of_find hfind (f := Fan.decelerated s.deckTime) (g := fun _ => f.decelerated s.deckTime) rfl]
    rfl
  case reverse =>
    rw [exec_running (f := decelerationExpire ch) hrun rfl, decelerationExpire_of_reversing hfind hstate htimer hdue,
      retryOnDecrease_eq, modFan_of_find hfind
        (g := fun _ => f.descend s.deckTime .reverseDwell (some (Time.plus s.deckTime (f.cfg.dwell * 10)))) rfl]
    rfl
  case dwell =>
    intro due stopped told
    have hstopped : (s.modFan ch fun x => { x with direction := s.dueDirection f, state := .stopped, timer := none }) = stopped :=
      modFan_of_find hfind rfl
    have htold : dwellEnded ch f s = told := by rw [dwellEnded_eq, hstopped]
    rw [exec_running (f := reverseDwellExpire ch) hrun rfl, reverseDwellExpire_of_find hfind,
      if_pos ⟨hstate, by rw [htimer, timerDue_some, hdue]⟩, fanStart_of_find (dwellEnded_find hfind), htold]

/-! ### Updates of several records of a table -/

theorem foldl_modify_cons {α : Type} {i : Nat} {x : α} {l : List Nat} (h : ∀ k ∈ l, k ≠ i) (t : Table α) (g : α → α) :
    l.foldl (fun t k => Table.modify k g t) ((i, x) :: t) = (i, x) :: l.foldl (fun t k => Table.modify k g t) t := by
  induction l generalizing t with
  | nil => rfl
  | cons k l ih =>
    obtain ⟨hk, hl⟩ := List.forall_mem_cons.1 h
    simp only [List.foldl_cons, Table.modify, if_neg hk.symm]
    exact ih hl _

/-- Each record of a rising table that passes a test updated, number by number. -/
theorem foldl_modify_filter {α : Type} {t : Table α} (h : t.rising = true) (p : Nat × α → Bool) (g : α → α) :
    ((t.filter p).map (·.1)).foldl (fun t k => Table.modify k g t) t =
      t.mapRecords fun n x => if p (n, x) then g x else x := by
  induction t with
  | nil => rfl
  | cons q t ih =>
    obtain ⟨i, x⟩ := q
    obtain ⟨habove, hrising⟩ := (Table.rising_cons i x t).1 h
    have hne : ∀ k ∈ (t.filter p).map (·.1), k ≠ i := by
      intro k hk
      obtain ⟨q, hq, rfl⟩ := List.mem_map.1 hk
      exact (habove q (List.mem_filter.1 hq).1).ne'
    have htail : Table.mapRecords (fun n x => if p (n, x) then g x else x) ((i, x) :: t) =
        (i, if p (i, x) then g x else x) :: Table.mapRecords (fun n x => if p (n, x) then g x else x) t := rfl
    rw [htail, ← ih hrising]
    cases hp : p (i, x) with
    | true =>
      simp only [List.filter_cons, hp, if_true, List.map_cons, List.foldl_cons, Table.modify]
      exact foldl_modify_cons hne t g
    | false =>
      simp only [List.filter_cons, hp, Bool.false_eq_true, if_false]
      exact foldl_modify_cons hne t g

/-! ### O45 -/

section
variable {ch : Nat} {f : Fan}

/-- A fan checked for reversal, in RUN mode, as an update of its record (R134). -/
theorem beginReversal_eq (hrun : s.inRun = true) :
    beginReversal ch s = s.modFan ch fun f => f.turned s.deckTime (s.dueDirection f) := by
  cases hfind : s.fans.find ch with
  | none => simp [beginReversal, hfind, State.modFan, Table.modify_of_not_find _ _ _ hfind]
  | some f =>
    have hsame (hf : f.turned s.deckTime (s.dueDirection f) = f) :
        s = s.modFan ch fun f => f.turned s.deckTime (s.dueDirection f) := by
      rw [State.modFan, Table.modify_of_find_fixed (f := fun f => f.turned s.deckTime (s.dueDirection f)) hfind hf]
    have hone {k : Fan → Fan} (hk : k f = f.turned s.deckTime (s.dueDirection f)) :
        s.modFan ch k = s.modFan ch fun f => f.turned s.deckTime (s.dueDirection f) := modFan_of_find hfind hk
    have htest : (s.inRun && decide (f.direction ≠ s.dueDirection f) &&
        (decide (f.state = .stopped) || decide (f.state = .accelerating) || decide (f.state = .steady)
          || decide (f.state = .decelerating))) = true ↔
        f.direction ≠ s.dueDirection f ∧
          (f.state = .stopped ∨ f.state = .accelerating ∨ f.state = .steady ∨ f.state = .decelerating) := by
      simp [hrun, or_assoc]
    simp only [beginReversal, hfind, htest]
    split
    next h =>
      split
      next hpos => exact hone (by simp only [Fan.turned, if_pos h, if_pos hpos]; rfl)
      next hpos => exact hone (by simp only [Fan.turned, if_pos h, if_neg hpos])
    next h => exact hsame (by simp only [Fan.turned, if_neg h])

end

/-- The fans of a list of channels checked for reversal. -/
theorem forEach_beginReversal (hrun : s.inRun = true) (l : List Nat) :
    forEach l beginReversal s =
      { s with
        fans := l.foldl (fun t ch => Table.modify ch (fun f => f.turned s.deckTime (s.dueDirection f)) t) s.fans } := by
  induction l generalizing s with
  | nil => rfl
  | cons ch l ih =>
    rw [forEach_cons, beginReversal_eq hrun, ih (s := s.modFan ch _) hrun]
    rfl

section
variable {zone : Nat} {z : Zone} {p : Pattern}

/-- A fan of a zone checked for reversal under a pattern of the zone (R136); any other fan stands. -/
def Fan.turnedIn (now : Time) (zone : Nat) (p : Pattern) (f : Fan) : Fan :=
  if f.cfg.zone = zone then f.turned now (f.cfg.dueUnder p) else f

theorem dueDirection_modZone (hfind : s.zones.find zone = some z) {f : Fan} (hf : f.cfg.zone = zone) :
    (s.modZone zone fun z => { z with pattern := p }).dueDirection f = f.cfg.dueUnder p := by
  have hz : (s.modZone zone fun z => { z with pattern := p }).zones.find f.cfg.zone = some { z with pattern := p } := by
    simp [hf, hfind]
  simp only [State.dueDirection, hz, FanCfg.dueUnder]
  cases p <;> rfl

/-- The fans of a zone after its pattern is set (R136). -/
theorem setPattern_eq (hrun : s.inRun = true) (hrising : s.fans.rising = true) (hfind : s.zones.find zone = some z) :
    setPattern zone p s =
      { s with
        zones := s.zones.modify zone fun z => { z with pattern := p }
        fans := s.fans.mapRecords fun _ f => f.turnedIn s.deckTime zone p } := by
  have hfans : (zoneFans s zone).foldl
      (fun t ch => Table.modify ch
        (fun f => f.turned s.deckTime ((s.modZone zone fun z => { z with pattern := p }).dueDirection f)) t) s.fans =
      s.fans.mapRecords fun _ f => f.turnedIn s.deckTime zone p := by
    unfold zoneFans
    rw [foldl_modify_filter hrising]
    refine List.map_congr_left fun q _ => ?_
    by_cases hq : q.2.cfg.zone = zone
    · simp [hq, Fan.turnedIn, dueDirection_modZone hfind hq]
    · simp [hq, Fan.turnedIn]
  unfold setPattern
  rw [forEach_beginReversal (s := s.modZone zone _) hrun]
  exact congrArg (fun fans => { s.modZone zone (fun z => { z with pattern := p }) with fans := fans }) hfans

/-- A fan of the zone reverses afterwards where it reversed before or is turned, and a fan that reverses is not turned. -/
theorem Fan.reversing_turnedIn (now : Time) (f : Fan) (hf : f.cfg.zone = zone) :
    ((f.turnedIn now zone p).reversing = true ↔ f.reversing = true ∨ f.turnedIn now zone p ≠ f) ∧
      (f.reversing = true → f.turnedIn now zone p = f) := by
  unfold Fan.turnedIn
  rw [if_pos hf]
  unfold Fan.turned
  split
  next h =>
    have hrest : f.reversing = false := by rcases h.2 with h | h | h | h <;> simp [Fan.reversing, h]
    have hturned {g : Fan} (hg : g.reversing = true) :
        (g.reversing = true ↔ f.reversing = true ∨ g ≠ f) ∧ (f.reversing = true → g = f) := by
      have hne : g ≠ f := fun heq => by simp [heq, hrest] at hg
      simp [hg, hrest, hne]
    split
    · exact hturned rfl
    · exact hturned rfl
  next => simp

theorem Fan.turnedIn_of_other (now : Time) {f : Fan} (hf : f.cfg.zone ≠ zone) : f.turnedIn now zone p = f := if_neg hf

/-- How many fans of a zone reverse, in a state whose fans come of the table by a function of each (R136). -/
theorem reversingAmong_zoneFans (hrising : s.fans.rising = true) {g : Fan → Fan}
    (hfans : t.fans = s.fans.mapRecords fun _ f => g f) :
    reversingAmong t (zoneFans s zone) = (s.fans.filter fun q => decide (q.2.cfg.zone = zone)).countP fun q => (g q.2).reversing := by
  unfold reversingAmong zoneFans
  rw [List.countP_map]
  refine List.countP_congr fun q hq => ?_
  have hfind : s.fans.find q.1 = some q.2 := (Table.find_eq_some_iff _ hrising _ _).2 (List.mem_filter.1 hq).1
  simp [hfans, hfind]

theorem countP_add_of_iff {α : Type} {l : List α} {a b c : α → Bool}
    (h : ∀ x ∈ l, (a x = true ↔ b x = true ∨ c x = true) ∧ (b x = true → c x = false)) :
    l.countP a = l.countP b + l.countP c := by
  induction l with
  | nil => rfl
  | cons x l ih =>
    obtain ⟨hx, hl⟩ := List.forall_mem_cons.1 h
    rw [List.countP_cons, List.countP_cons, List.countP_cons, ih hl]
    cases ha : a x <;> cases hb : b x <;> cases hc : c x <;> simp_all <;> omega

/-- The reversals a pattern begins are the fans it turns (R136). -/
theorem reversingAmong_turned (hrising : s.fans.rising = true)
    (hfans : t.fans = s.fans.mapRecords fun _ f => f.turnedIn s.deckTime zone p) :
    reversingAmong t (zoneFans s zone) - reversingAmong s (zoneFans s zone) =
      (s.fans.filter fun q => decide (q.2.turnedIn s.deckTime zone p ≠ q.2)).length := by
  have hbefore := reversingAmong_zoneFans (zone := zone) (t := s) (g := fun f => f) hrising (by simp [Table.mapRecords])
  have hcount := countP_add_of_iff (l := s.fans.filter fun q => decide (q.2.cfg.zone = zone))
    (a := fun q => (q.2.turnedIn s.deckTime zone p).reversing) (b := fun q => q.2.reversing)
    (c := fun q => decide (q.2.turnedIn s.deckTime zone p ≠ q.2)) fun q hq => by
      have hq : q.2.cfg.zone = zone := by simpa using (List.mem_filter.1 hq).2
      simpa using q.2.reversing_turnedIn s.deckTime hq
  rw [reversingAmong_zoneFans (zone := zone) hrising hfans, hbefore, hcount, Nat.add_sub_cancel_left,
    List.countP_eq_length_filter, List.filter_filter]
  refine congrArg List.length (List.filter_congr fun q _ => ?_)
  by_cases hq : q.2.cfg.zone = zone
  · simp [hq]
  · simp [hq, Fan.turnedIn_of_other s.deckTime hq]

end

section
variable {zone pattern : Nat} {z : Zone}

theorem doSetFlowPattern_of_find (hrun : s.inRun = true) (hw : s.writing = false) (hzone : zone ≤ 11) (hp : pattern ≤ 1)
    (hfind : s.zones.find zone = some z) :
    doSetFlowPattern zone pattern s =
      done (setPattern zone (patternOf pattern) s)
        (joinFields [1, 1]
          [z.pattern.code,
           reversingAmong (setPattern zone (patternOf pattern) s) (zoneFans s zone) - reversingAmong s (zoneFans s zone)]) := by
  simp [doSetFlowPattern, hrun, hw, within_zero_eq_true_iff.2 hzone, within_zero_eq_true_iff.2 hp, hfind]

theorem doSetFlowPattern_of_range (hrun : s.inRun = true) (hw : s.writing = false) (h : 11 < zone ∨ 1 < pattern) :
    doSetFlowPattern zone pattern s = refuse s .badArgument := by
  have hfits : (within 0 11 zone && within 0 1 pattern) = false := by
    rcases h with h | h <;> simp [within_zero_eq_false_iff.2 h]
  simp only [doSetFlowPattern, hrun, hw, hfits, checked_cons]
  rfl

theorem doSetFlowPattern_of_no_record (hrun : s.inRun = true) (hw : s.writing = false) (hzone : zone ≤ 11) (hp : pattern ≤ 1)
    (hfind : s.zones.find zone = none) : doSetFlowPattern zone pattern s = refuse s .notFound := by
  simp [doSetFlowPattern, hrun, hw, within_zero_eq_true_iff.2 hzone, within_zero_eq_true_iff.2 hp, hfind]

theorem Pattern.code_eq (p : Pattern) : p.code = if p = .a then 0 else 1 := by cases p <;> rfl

end

/-- Settles O45: the fans of the zone turned number by number, and the reversals counted as the fans that change. -/
theorem flowPatternTurnsFans : Obligations.FlowPatternTurnsFans := by
  unfold Obligations.FlowPatternTurnsFans
  intro s tag zone pattern h hrun hw hrising p turn
  have answered {t' : State} {contents : List Byte} {status : Status}
      (he : doSetFlowPattern zone pattern s = (t', [(status, contents)])) :
      exec (.setFlowPattern .supervisor tag zone pattern) s = replies s .supervisor tag 0x24 status contents t' :=
    exec_answers (c := .setFlowPattern zone pattern) rfl h rfl (by decide) rfl rfl he
  refine ⟨fun z hzone hpat hfind => answered ((doSetFlowPattern_of_find hrun hw hzone hpat hfind).trans ?_),
    fun hrange => answered (doSetFlowPattern_of_range hrun hw hrange),
    fun hzone hpat hfind => answered (doSetFlowPattern_of_no_record hrun hw hzone hpat hfind)⟩
  have hset := setPattern_eq (p := p) hrun hrising hfind
  have hcount := reversingAmong_turned (t := setPattern zone p s) (zone := zone) (p := p) hrising (by rw [hset])
  rw [show patternOf pattern = p from rfl, hcount, hset, Pattern.code_eq]
  rfl
end Sys2Proof.Machine
end

section
/-! The power the loads draw: what a computation grants, and what a rise adds (sections 7.3 and 7.4). -/

namespace Sys2Proof.Machine
variable {s t u : State}

/-! ### Sums over tables -/

section
variable {α β : Type}

theorem sumOf_filter (F : α → Nat) (p : α → Bool) (l : List α) :
    sumOf F (l.filter p) = sumOf (fun x => if p x then F x else 0) l := by
  induction l with
  | nil => rfl
  | cons x l ih => cases hp : p x <;> simp [hp, ih]

theorem sumOf_add (F G : α → Nat) (l : List α) : sumOf (fun x => F x + G x) l = sumOf F l + sumOf G l := by
  induction l with
  | nil => rfl
  | cons x l ih =>
    simp only [sumOf_cons, ih]
    omega

theorem le_sumOf {F : α → Nat} {x : α} {l : List α} (h : x ∈ l) : F x ≤ sumOf F l := by
  induction l with
  | nil => simp at h
  | cons y l ih =>
    rcases List.mem_cons.1 h with rfl | h
    · exact Nat.le_add_right _ _
    · exact (ih h).trans (Nat.le_add_left _ _)

/-- One record changed changes a sum by what it adds to it. -/
theorem sumOf_modify {t : Table α} {k : Nat} {x : α} (h : t.find k = some x) (F : Nat × α → Nat) (g : α → α) :
    sumOf F (t.modify k g) + F (k, x) = sumOf F t + F (k, g x) := by
  induction t with
  | nil => simp at h
  | cons q t ih =>
    obtain ⟨i, y⟩ := q
    rw [Table.find_cons] at h
    by_cases hi : i = k
    · subst hi
      rw [if_pos rfl] at h
      obtain rfl := Option.some.inj h
      simp only [Table.modify, if_true, sumOf_cons]
      omega
    · rw [if_neg hi] at h
      have := ih h
      simp only [Table.modify, if_neg hi, sumOf_cons]
      omega

/-- Sums of two lists that a view shows the same, over functions the view determines. -/
theorem sumOf_of_view {φ : α → β} {F G : α → Nat} (h : ∀ a b, φ a = φ b → F a = G b) {l m : List α}
    (hview : l.map φ = m.map φ) : sumOf F l = sumOf G m := by
  induction l generalizing m with
  | nil =>
    obtain rfl : m = [] := by simpa using hview.symm
    rfl
  | cons x l ih =>
    cases m with
    | nil => simp at hview
    | cons y m =>
      obtain ⟨hxy, htail⟩ := List.cons_eq_cons.1 hview
      rw [sumOf_cons, sumOf_cons, h x y hxy, ih htail]

end

/-! ### The division, read of the loads' standings -/

section
variable (h : LoadsStand s t)
include h

theorem LoadsStand.allowance : t.allowance = s.allowance := by
  unfold State.allowance
  rw [h.within.pins, h.normal, h.shed]

theorem LoadsStand.nodeHealth (a : Nat) : t.nodeHealth a = s.nodeHealth a := by
  unfold State.nodeHealth State.nodeRecord
  rw [h.within.loop_eq (by decide)]

theorem LoadsStand.rowPower (r : Row) (g : Nat) : t.rowPower r g = s.rowPower r g := by
  unfold State.rowPower
  rw [h.nodeHealth]

theorem LoadsStand.sum_fanLoads {F : Fan → Nat} (hF : ∀ f f' : Fan, f.standing = f'.standing → F f = F f') :
    sumOf (fun p => F p.2) t.fanLoads = sumOf (fun p => F p.2) s.fanLoads := by
  unfold State.fanLoads
  rw [sumOf_filter, sumOf_filter]
  refine sumOf_of_view (fun a b hab => ?_) h.fans
  have hst : a.2.standing = b.2.standing := (Prod.mk.inj hab).2
  have hload : a.2.isLoad = b.2.isLoad := by simp only [Fan.standing, Prod.mk.injEq] at hst; tauto
  simp only [hload, hF _ _ hst]

theorem LoadsStand.sum_rows {F : Row → Nat} (hF : ∀ r r' : Row, r.standing = r'.standing → F r = F r') :
    sumOf (fun p => F p.2) t.rows = sumOf (fun p => F p.2) s.rows :=
  sumOf_of_view (fun _ _ hab => hF _ _ (Prod.mk.inj hab).2) h.rows

theorem LoadsStand.floorSum : t.floorSum = s.floorSum := by
  unfold State.floorSum
  refine congrArg₂ (· + ·) (h.sum_fanLoads (F := Fan.floorDraw) fun f f' hf => ?_)
    ((h.sum_rows (F := t.rowFloorDraw) fun r r' hr => ?_).trans ?_)
  · simp only [Fan.standing, Prod.mk.injEq] at hf
    simp only [Fan.floorDraw, hf]
  · simp only [Row.standing, Prod.mk.injEq] at hr
    simp only [State.rowFloorDraw, State.rowPower, hr]
  · exact sumOf_congr _ _ _ fun p _ => h.rowPower p.2 _

theorem LoadsStand.fanExtra (cls k : Nat) : Machine.fanExtra t cls k = Machine.fanExtra s cls k := by
  unfold Machine.fanExtra State.classFans
  rw [sumOf_filter, sumOf_filter]
  refine h.sum_fanLoads (F := fun f => if decide (f.cls = cls) then f.cfg.power (f.scaled k) - f.floorDraw else 0)
    fun f f' hf => ?_
  simp only [Fan.standing, Prod.mk.injEq] at hf
  simp only [Fan.scaled, Fan.floorDraw, hf]

theorem LoadsStand.rowExtra (k : Nat) : Machine.rowExtra t k = Machine.rowExtra s k := by
  unfold Machine.rowExtra
  refine (h.sum_rows (F := fun r => t.rowPower r (r.scaled k) - t.rowFloorDraw r) fun r r' hr => ?_).trans ?_
  · simp only [Row.standing, Prod.mk.injEq] at hr
    simp only [State.rowFloorDraw, State.rowPower, Row.scaled, hr]
  · exact sumOf_congr _ _ _ fun p _ => congrArg₂ (· - ·) (h.rowPower p.2 _) (h.rowPower p.2 _)

/-- Loads that stand are divided the allowance in the same way. -/
theorem LoadsStand.divide : Machine.divide t = Machine.divide s := by
  have hfan (cls : Nat) : Machine.fanExtra t cls = Machine.fanExtra s cls := funext (h.fanExtra cls)
  have hrow : Machine.rowExtra t = Machine.rowExtra s := funext h.rowExtra
  unfold Machine.divide
  rw [h.floorSum, h.allowance, hfan, hfan, hrow]

end

/-! ### What the division grants keeps within the allowance -/

/-- The power of the grants a division gives the loads of a state. -/
def Division.granted (d : Division) (s : State) : Nat :=
  sumOf (fun p => p.2.cfg.power (d.fanGrant p.2)) s.fanLoads + sumOf (fun p => s.rowPower p.2 (d.rowGrant p.2)) s.rows

theorem sum_filter_of_load {F : Fan → Nat} : sumOf (fun p => F p.2) s.fanLoads = sumOf (fun p => if p.2.isLoad then F p.2 else 0) s.fans :=
  sumOf_filter _ _ _

theorem LoadsFit.cls (h : LoadsFit s = true) {p : Nat × Fan} (hp : p ∈ s.fans) : p.2.cls = 1 ∨ p.2.cls = 3 := by
  simp only [LoadsFit, Bool.and_eq_true, List.all_eq_true, Bool.or_eq_true, decide_eq_true_eq] at h
  exact (h.2 p hp).imp id And.left

/-- What the scales add to the floor draws is what the loads are granted, class by class (R153). -/
theorem granted_le_of_scales (h : LoadsFit s = true) {d : Division} {k1 k2 k3 : Nat} (hd : d.scales = some (k1, k2, k3)) :
    d.granted s ≤ s.floorSum + fanExtra s 1 k1 + rowExtra s k2 + fanExtra s 3 k3 := by
  have hfans : sumOf (fun p => p.2.cfg.power (d.fanGrant p.2)) s.fanLoads ≤
      sumOf (fun p => p.2.floorDraw) s.fanLoads + fanExtra s 1 k1 + fanExtra s 3 k3 := by
    unfold fanExtra State.classFans
    rw [sumOf_filter, sumOf_filter, ← sumOf_add, ← sumOf_add]
    refine sumOf_le _ _ _ fun p hp => ?_
    rcases LoadsFit.cls h (List.mem_filter.1 hp).1 with hcls | hcls
    · simp only [Division.fanGrant, hd, hcls]
      simp
      omega
    · simp only [Division.fanGrant, hd, hcls]
      simp
      omega
  have hrows : sumOf (fun p => s.rowPower p.2 (d.rowGrant p.2)) s.rows ≤
      sumOf (fun p => s.rowFloorDraw p.2) s.rows + rowExtra s k2 := by
    unfold rowExtra
    rw [← sumOf_add]
    refine sumOf_le _ _ _ fun p _ => ?_
    simp only [Division.rowGrant, hd]
    omega
  unfold Division.granted State.floorSum
  omega

/-- The law of R154 for the grants as the division gives them. -/
theorem granted_divide_le (h : LoadsFit s = true) : (divide s).granted s ≤ max s.allowance (divide s).floorTotal := by
  by_cases hshort : s.allowance ≤ s.floorSum
  · rw [divide_of_short hshort]
    exact le_max_right s.allowance s.floorSum
  · have hscale (extra : Nat → Nat) (budget : Nat) (h0 : extra 0 = 0) : extra (largestScale extra budget 256) ≤ budget :=
      (largestScale_spec extra budget 256 (by rw [h0]; exact Nat.zero_le _)).2.1
    have h1 : fanExtra s 1 s.scale1 ≤ _ := hscale _ _ (fanExtra_zero s 1)
    have h2 : rowExtra s s.scale2 ≤ _ := hscale _ _ (rowExtra_zero s)
    have h3 : fanExtra s 3 s.scale3 ≤ _ := hscale _ _ (fanExtra_zero s 3)
    have hle := granted_le_of_scales h (d := divide s) (by rw [divide_of_enough (not_le.1 hshort)])
    exact le_max_of_le_left (by omega)

/-! ### A computation hands each load its grant -/

/-- The grant a division gives a load of a state. -/
def Division.grantOf (d : Division) (s : State) : Load → Nat
  | .fan ch => ((s.fans.find ch).map d.fanGrant).getD 0
  | .row n => ((s.rows.find n).map d.rowGrant).getD 0

theorem grantsOf_mem {d : Division} (hf : s.fans.rising = true) (hr : s.rows.rising = true) {x : Load × Nat}
    (h : x ∈ grantsOf s d) : x.2 = d.grantOf s x.1 := by
  have hfan {cls : Nat} {p : Nat × Fan} (hp : p ∈ s.classFans cls) : s.fans.find p.1 = some p.2 :=
    (Table.find_eq_some_iff _ hf _ _).2 (List.mem_filter.1 (List.mem_filter.1 hp).1).1
  unfold grantsOf at h
  rcases List.mem_append.1 h with h | h
  · obtain ⟨p, hp, rfl⟩ := List.mem_map.1 h
    simp [Division.grantOf, hfan hp]
  · rcases List.mem_append.1 h with h | h
    · obtain ⟨p, hp, rfl⟩ := List.mem_map.1 h
      simp [Division.grantOf, (Table.find_eq_some_iff _ hr _ _).2 hp]
    · obtain ⟨p, hp, rfl⟩ := List.mem_map.1 h
      simp [Division.grantOf, hfan hp]

/-- A load of a state, in the inventory or not. -/
def State.hasLoad (s : State) : Load → Prop
  | .fan ch => (s.fans.find ch).isSome = true
  | .row n => (s.rows.find n).isSome = true

theorem storedGrant_eq (s : State) (l : Load) :
    storedGrant s l =
      match l with
      | .fan ch => (s.fanGrants.find ch).getD 0
      | .row n => (s.rowGrants.find n).getD 0 := by
  cases l <;> simp [storedGrant, State.fanGrants, State.rowGrants]

theorem storedGrant_of_grantsStand (h : GrantsStand s t) (l : Load) : storedGrant t l = storedGrant s l := by
  rw [storedGrant_eq, storedGrant_eq, h.fanGrants, h.rowGrants]

theorem Table.mapRecords_modify_const {α β : Type} (f : Nat → α → β) (k : Nat) (x : α) (y : β) (t : Table α) (h : f k x = y) :
    (t.modify k fun _ => x).mapRecords f = (t.mapRecords f).modify k fun _ => y := by
  induction t with
  | nil => rfl
  | cons q t ih =>
    obtain ⟨i, z⟩ := q
    by_cases hi : i = k
    · subst hi
      simp [Table.modify, Table.mapRecords, h]
    · simp only [Table.modify, if_neg hi, Table.mapRecords, List.map_cons]
      exact congrArg _ ih

theorem Fan.onGrant_granted (now : Time) (g : Nat) (f : Fan) : (f.onGrant now g).granted = g := by
  cases hst : f.state with
  | stopped =>
    simp only [Fan.onGrant, hst]
    split <;> rfl
  | accelerating | steady | decelerating =>
    simp only [Fan.onGrant, hst]
    split
    · rfl
    · split <;> rfl
  | reversingDown | reverseDwell | faulted | isolated | held => simp [Fan.onGrant, hst]

/-- Of the fans' grants, a grant handed to a fan changes its own alone. -/
theorem grantFan_fanGrants (ch g : Nat) (s : State) : (grantFan ch g s).fanGrants = s.fanGrants.modify ch fun _ => g := by
  have hconst {f : Fan} (hf : f.granted = g) : (s.modFan ch fun _ => f).fanGrants = s.fanGrants.modify ch fun _ => g :=
    Table.mapRecords_modify_const _ ch f g s.fans hf
  cases hfind : s.fans.find ch with
  | none =>
    have hgrants : s.fanGrants.find ch = none := by simp [State.fanGrants, hfind]
    rw [Table.modify_of_not_find _ _ _ hgrants]
    simp [grantFan, hfind]
  | some f =>
    by_cases hstart : f.startsOn g
    · have hrise := fanRise_grantsStand (s := s.modFan ch fun _ => { f with granted := g }) (ch := ch) (speed := f.cfg.start)
        fun x hx => by
          rw [modFan_find _ hfind] at hx
          cases hx
          exact .inl hstart.1
      rw [grantFan_of_start hfind hstart, hrise.fanGrants, hconst rfl]
    · rw [grantFan_of_no_start hfind hstart, hconst (f.onGrant_granted _ _)]

theorem grantFan_rowGrants (ch g : Nat) (s : State) : (grantFan ch g s).rowGrants = s.rowGrants := by
  unfold State.rowGrants
  rw [(grantFan_within ch g s).rows_eq (by decide)]

theorem grantRow_rowGrants (n g : Nat) (s : State) : (grantRow n g s).rowGrants = s.rowGrants.modify n fun _ => g := by
  cases hfind : s.rows.find n with
  | none =>
    have hgrants : s.rowGrants.find n = none := by simp [State.rowGrants, hfind]
    rw [Table.modify_of_not_find _ _ _ hgrants]
    simp [grantRow, State.modRow, State.rowGrants, Table.modify_of_not_find _ _ _ hfind]
  | some r =>
    unfold grantRow
    rw [modRow_of_find hfind (g := fun _ => r.actOnGrant s.deckTime s.fade g) rfl]
    exact Table.mapRecords_modify_const _ n _ g s.rows rfl

/-- A load handed a grant, or left with it where it has it, holds that grant. -/
theorem handGrant_storedGrant {all : Bool} {l : Load} {g : Nat} (h : s.hasLoad l) :
    storedGrant (handGrant all (l, g) s) l = g := by
  unfold handGrant
  split
  · cases l with
    | fan ch =>
      obtain ⟨f, hf⟩ := Option.isSome_iff_exists.1 h
      rw [storedGrant_eq, grantFan_fanGrants]
      simp [State.fanGrants, hf]
    | row n =>
      obtain ⟨r, hr⟩ := Option.isSome_iff_exists.1 h
      rw [storedGrant_eq, grantRow_rowGrants]
      simp [State.rowGrants, hr]
  next hsame =>
    simp only [Bool.or_eq_true, decide_eq_true_eq, not_or, not_not] at hsame
    exact hsame.2

theorem handGrant_storedGrant_other {all : Bool} {l m : Load} {g : Nat} (h : l ≠ m) :
    storedGrant (handGrant all (l, g) s) m = storedGrant s m := by
  unfold handGrant
  split
  · cases l with
    | fan ch =>
      dsimp only
      cases m with
      | fan c =>
        rw [storedGrant_eq, storedGrant_eq, grantFan_fanGrants]
        have hne : ¬ c = ch := fun hc => h (congrArg Load.fan hc.symm)
        simp [hne]
      | row n => rw [storedGrant_eq, storedGrant_eq, grantFan_rowGrants]
    | row n =>
      cases m with
      | fan c => rfl
      | row k =>
        rw [storedGrant_eq, storedGrant_eq, grantRow_rowGrants]
        have hne : ¬ k = n := fun hc => h (congrArg Load.row hc.symm)
        simp [hne]
  · rfl

theorem LoadsStand.hasLoad (h : LoadsStand s t) (l : Load) : t.hasLoad l ↔ s.hasLoad l := by
  cases l with
  | fan ch =>
    have := congrArg (fun u : Table _ => (u.find ch).isSome) h.fans
    simp only [State.fanStandings, Table.find_mapRecords, Option.isSome_map] at this
    simp [State.hasLoad, this]
  | row n =>
    have := congrArg (fun u : Table _ => (u.find n).isSome) h.rows
    simp only [State.rowStandings, Table.find_mapRecords, Option.isSome_map] at this
    simp [State.hasLoad, this]

/-- After the grants of a list, each load in it holds the one grant the list has for it. -/
theorem forEach_handGrant_storedGrant {all : Bool} {m : Load} {g : Nat} {l : List (Load × Nat)}
    (hone : ∀ x ∈ l, x.1 = m → x.2 = g) (hin : storedGrant s m = g ∨ ∃ x ∈ l, x.1 = m) (h : s.hasLoad m) :
    storedGrant (forEach l (handGrant all) s) m = g := by
  induction l generalizing s with
  | nil => simpa using hin
  | cons x l ih =>
    obtain ⟨hx, hl⟩ := List.forall_mem_cons.1 hone
    obtain ⟨k, v⟩ := x
    rw [forEach_cons]
    refine ih hl ?_ (((handGrant_stands all (k, v) s).hasLoad m).2 h)
    by_cases hk : k = m
    · subst hk
      obtain rfl : v = g := hx rfl
      exact .inl (handGrant_storedGrant h)
    · rw [handGrant_storedGrant_other hk]
      refine hin.imp id fun hin => ?_
      simpa [hk] using hin

/-- The state a computation has handed its grants to. -/
theorem compute_storedGrant (all : Bool) (s : State) (l : Load) :
    storedGrant (compute all s) l =
      storedGrant (forEach (grantsOf s (divide s)) (handGrant all) (recordDivision (divide s) s)) l := by
  have hjudge (t : State) : storedGrant (judgeShort t) l = storedGrant t l := by
    have hwithin := judgeShort_within t
    cases l with
    | fan ch => simp only [storedGrant, hwithin.fans_eq (by decide)]
    | row n => simp only [storedGrant, hwithin.rows_eq (by decide)]
  unfold compute
  rw [hjudge, storedGrant_of_grantsStand (retryHeld_grantsStand _)]

/-- After a computation every load of the inventory holds its grant (R154). -/
theorem compute_grants {all : Bool} (h : LoadsFit s = true) {l : Load} {g : Nat} (hmem : (l, g) ∈ grantsOf s (divide s))
    (hl : s.hasLoad l) : storedGrant (compute all s) l = g := by
  have hfr : s.fans.rising = true ∧ s.rows.rising = true := by
    simp only [LoadsFit, Bool.and_eq_true] at h
    exact h.1
  rw [compute_storedGrant]
  refine forEach_handGrant_storedGrant (fun x hx hxl => ?_) (.inr ⟨_, hmem, rfl⟩)
    (((recordDivision_stands _ s).hasLoad l).2 hl)
  rw [grantsOf_mem hfr.1 hfr.2 hx, hxl]
  exact (grantsOf_mem hfr.1 hfr.2 hmem).symm

/-! ### The loads after a computation -/

theorem Table.rising_of_mapRecords {α β : Type} {f : Nat → α → β} {t u : Table α} (h : t.mapRecords f = u.mapRecords f) :
    t.rising = u.rising := by
  rw [← Table.rising_mapRecords f t, h, Table.rising_mapRecords]

theorem LoadsStand.loadsFit (h : LoadsStand s t) : LoadsFit t = LoadsFit s := by
  have hall (u : State) : (u.fans.all fun p => decide (p.2.cls = 1) || (decide (p.2.cls = 3) && decide (p.2.floor = 0))) =
      u.fanStandings.all fun p =>
        decide (p.2.2.2.2.1 = 1) || (decide (p.2.2.2.2.1 = 3) && decide (p.2.2.2.1 = 0)) := by
    simp only [State.fanStandings, Table.mapRecords, List.all_map]
    rfl
  unfold LoadsFit
  rw [hall, hall, h.fans, Table.rising_of_mapRecords h.fans, Table.rising_of_mapRecords h.rows]

/-- A fan of the later state, and the fan of the same channel it stands for. -/
theorem LoadsStand.fan_before (h : LoadsStand s t) {ch : Nat} {f : Fan} (hf : t.fans.find ch = some f) :
    ∃ f', s.fans.find ch = some f' ∧ f'.standing = f.standing := by
  have hstands := congrArg (fun u : Table _ => u.find ch) h.fans
  simp only [State.fanStandings, Table.find_mapRecords, hf, Option.map_some] at hstands
  exact Option.map_eq_some_iff.1 hstands.symm

theorem LoadsStand.row_before (h : LoadsStand s t) {n : Nat} {r : Row} (hr : t.rows.find n = some r) :
    ∃ r', s.rows.find n = some r' ∧ r'.standing = r.standing := by
  have hstands := congrArg (fun u : Table _ => u.find n) h.rows
  simp only [State.rowStandings, Table.find_mapRecords, hr, Option.map_some] at hstands
  exact Option.map_eq_some_iff.1 hstands.symm

theorem compute_fan_granted {all : Bool} (h : LoadsFit s = true) {q : Nat × Fan} (hq : q ∈ (compute all s).fanLoads) :
    q.2.granted = (divide s).fanGrant q.2 := by
  obtain ⟨hmem, hload⟩ := List.mem_filter.1 hq
  have hrising : (compute all s).fans.rising = true := by
    have hfit := (compute_stands all s).loadsFit.trans h
    simp only [LoadsFit, Bool.and_eq_true] at hfit
    exact hfit.1.1
  have hfind : (compute all s).fans.find q.1 = some q.2 := (Table.find_eq_some_iff _ hrising _ _).2 hmem
  obtain ⟨f, hf, hst⟩ := (compute_stands all s).fan_before hfind
  simp only [Fan.standing, Prod.mk.injEq] at hst
  obtain ⟨hcfg, hrequest, hfloor, hcls, _, hisLoad⟩ := hst
  have hsame : (divide s).fanGrant f = (divide s).fanGrant q.2 := by
    simp only [Division.fanGrant, Fan.scaled, hcfg, hrequest, hfloor, hcls]
  have hin : (q.1, f) ∈ s.fanLoads := List.mem_filter.2 ⟨Table.find_mem _ _ _ hf, hisLoad.trans hload⟩
  have hgrant : ((.fan q.1, (divide s).fanGrant f) : Load × Nat) ∈ grantsOf s (divide s) := by
    have hclass {c : Nat} (hc : f.cls = c) : (q.1, f) ∈ s.classFans c := List.mem_filter.2 ⟨hin, decide_eq_true hc⟩
    unfold grantsOf
    rcases LoadsFit.cls h (Table.find_mem _ _ _ hf) with hc | hc
    · exact List.mem_append_left _ (List.mem_map.2 ⟨_, hclass hc, rfl⟩)
    · exact List.mem_append_right _ (List.mem_append_right _ (List.mem_map.2 ⟨_, hclass hc, rfl⟩))
  have hstored := compute_grants (all := all) h hgrant (by simp [State.hasLoad, hf])
  rw [← hsame, ← hstored]
  simp [storedGrant, hfind]

theorem compute_row_granted {all : Bool} (h : LoadsFit s = true) {q : Nat × Row} (hq : q ∈ (compute all s).rows) :
    q.2.granted = (divide s).rowGrant q.2 := by
  have hrising : (compute all s).rows.rising = true := by
    have hfit := (compute_stands all s).loadsFit.trans h
    simp only [LoadsFit, Bool.and_eq_true] at hfit
    exact hfit.1.2
  have hfind : (compute all s).rows.find q.1 = some q.2 := (Table.find_eq_some_iff _ hrising _ _).2 hq
  obtain ⟨r, hr, hst⟩ := (compute_stands all s).row_before hfind
  simp only [Row.standing, Prod.mk.injEq] at hst
  obtain ⟨hcfg, hrequested, _⟩ := hst
  have hsame : (divide s).rowGrant r = (divide s).rowGrant q.2 := by
    simp only [Division.rowGrant, Row.scaled, hcfg, hrequested]
  have hgrant : ((.row q.1, (divide s).rowGrant r) : Load × Nat) ∈ grantsOf s (divide s) :=
    List.mem_append_right _ (List.mem_append_left _ (List.mem_map.2 ⟨_, Table.find_mem _ _ _ hr, rfl⟩))
  have hstored := compute_grants (all := all) h hgrant (by simp [State.hasLoad, hr])
  rw [← hsame, ← hstored]
  simp [storedGrant, hfind]

theorem judgeShort_floorTotal (s : State) : (judgeShort s).supply.floorTotal = s.supply.floorTotal := by
  unfold judgeShort
  dsimp only
  split
  · rw [post_eq]
    rfl
  · split
    · rw [post_eq]
      rfl
    · rfl

theorem compute_floorTotal (all : Bool) (s : State) : (compute all s).supply.floorTotal = (divide s).floorTotal := by
  have hhanded (l : List (Load × Nat)) (t : State) : (forEach l (handGrant all) t).supply = t.supply :=
    (forEach_within _ (handGrant_within all) l t).supply_eq (by decide)
  unfold compute
  rw [judgeShort_floorTotal, (retryHeld_grantsStand _).supply, hhanded]
  rfl

/-- The law of R154. -/
theorem compute_grantedSum_le (all : Bool) (h : LoadsFit s = true) :
    (compute all s).grantedSum ≤ max (compute all s).allowance (compute all s).supply.floorTotal := by
  have hstands := compute_stands all s
  have hsum : (compute all s).grantedSum = (divide (compute all s)).granted (compute all s) := by
    rw [hstands.divide]
    unfold State.grantedSum Division.granted
    rw [sumOf_congr _ _ _ fun q hq => by rw [compute_fan_granted h hq],
      sumOf_congr _ _ (compute all s).rows fun q hq => by rw [compute_row_granted h hq]]
  rw [hsum, compute_floorTotal, ← hstands.divide]
  exact granted_divide_le (hstands.loadsFit.trans h)

/-! ### What a rise adds to the draw (R155) -/

section
variable {n : Nat} {r r' : Row}

/-- A row's part of the total draw replaced (R147). -/
theorem totalDraw_modRow (hfind : s.rows.find n = some r) (g : Row → Row) :
    (s.modRow n g).totalDraw + s.rowDraw r = s.totalDraw + s.rowDraw (g r) := by
  have hsum := sumOf_modify hfind (fun p => s.rowDraw p.2) g
  have hrows : sumOf (fun p => (s.modRow n g).rowDraw p.2) (s.modRow n g).rows =
      sumOf (fun p => s.rowDraw p.2) (s.rows.modify n g) := rfl
  have hfans : (s.modRow n g).fanLoads = s.fanLoads := rfl
  dsimp only at hsum
  unfold State.totalDraw
  rw [hrows, hfans]
  omega

theorem rowDraw_le_totalDraw (hfind : s.rows.find n = some r) : s.rowDraw r ≤ s.totalDraw :=
  (le_sumOf (F := fun p : Nat × Row => s.rowDraw p.2) (Table.find_mem _ _ _ hfind)).trans (Nat.le_add_left _ _)

/-- The law of R155 for the rise step of a row. -/
theorem rowRise_totalDraw_le (hfind : s.rows.find n = some r) (hfind' : (rowRise n s).rows.find n = some r')
    (hmore : s.rowDraw r < s.rowDraw r') (habove : s.rowFloorDraw r < s.rowDraw r') :
    (rowRise n s).totalDraw ≤ max s.allowance s.supply.floorTotal := by
  cases hfits : s.rowMayRise r with
  | false =>
    rw [rowRise_of_not_fits hfind hfits] at hfind'
    obtain rfl : ({ r with step := .riseHeld } : Row) = r' := by simpa [hfind] using hfind'
    exact absurd hmore (lt_irrefl _)
  | true =>
    rw [rowRise_of_fits hfind hfits] at hfind' ⊢
    obtain rfl : r.afterRise s.deckTime (r.commanded + min 5 (r.granted - r.commanded)) = r' := by
      simpa [hfind] using hfind'
    have hdraw := totalDraw_modRow hfind fun x =>
      x.afterRise s.deckTime (r.commanded + min 5 (r.granted - r.commanded))
    have hle := rowDraw_le_totalDraw hfind
    unfold State.rowMayRise at hfits
    have hnext : s.rowDraw (r.afterRise s.deckTime (r.commanded + min 5 (r.granted - r.commanded))) =
        s.rowPower r (r.commanded + min 5 (r.granted - r.commanded)) := rfl
    rw [hnext] at hmore habove hdraw
    rcases mayRise_iff.1 hfits with h | h | h <;> omega

end

section
variable {ch speed : Nat} {f f' : Fan}

/-- A fan's part of the total draw replaced, where it is a load before and after (R147). -/
theorem totalDraw_modFan (hfind : s.fans.find ch = some f) (g : Fan → Fan) (hload : f.isLoad = true)
    (hload' : (g f).isLoad = true) : (s.modFan ch g).totalDraw + f.draw = s.totalDraw + (g f).draw := by
  have hsum := sumOf_modify hfind (fun p => if p.2.isLoad then p.2.draw else 0) g
  have hfans : sumOf (fun p => p.2.draw) (s.modFan ch g).fanLoads =
      sumOf (fun p => if p.2.isLoad then p.2.draw else 0) (s.fans.modify ch g) := sumOf_filter _ _ _
  have hbefore : sumOf (fun p => p.2.draw) s.fanLoads = sumOf (fun p => if p.2.isLoad then p.2.draw else 0) s.fans :=
    sumOf_filter _ _ _
  have hrows : sumOf (fun p => (s.modFan ch g).rowDraw p.2) (s.modFan ch g).rows = sumOf (fun p => s.rowDraw p.2) s.rows := rfl
  simp only [hload, hload', if_true] at hsum
  unfold State.totalDraw
  rw [hfans, hbefore, hrows]
  omega

theorem draw_le_totalDraw (hfind : s.fans.find ch = some f) (hload : f.isLoad = true) : f.draw ≤ s.totalDraw :=
  (le_sumOf (F := fun p : Nat × Fan => p.2.draw) (List.mem_filter.2 ⟨Table.find_mem _ _ _ hfind, hload⟩)).trans
    (Nat.le_add_right _ _)

theorem Fan.afterRise_draw (now : Time) (f : Fan) (speed : Nat) : (f.afterRise now speed).draw = f.cfg.power speed := by
  unfold Fan.afterRise
  split <;> rfl

theorem Fan.afterRise_isLoad (now : Time) (f : Fan) (speed : Nat) : (f.afterRise now speed).isLoad = true := by
  unfold Fan.afterRise
  split <;> rfl

/-- The law of R155 for a start or acceleration step of a fan that is a load. -/
theorem fanRise_totalDraw_le (hfind : s.fans.find ch = some f) (hload : f.isLoad = true)
    (hfind' : (fanRise ch speed s).fans.find ch = some f') (hmore : f.draw < f'.draw) (habove : f.floorDraw < f'.draw) :
    (fanRise ch speed s).totalDraw ≤ max s.allowance s.supply.floorTotal := by
  cases hfits : headroom s f.draw (f.cfg.power speed) f.floorDraw with
  | false =>
    rw [fanRise_of_not_fits hfind hfits] at hfind'
    obtain rfl : ({ f with rampHeld := true, timer := none } : Fan) = f' := by simpa [hfind] using hfind'
    exact absurd hmore (lt_irrefl _)
  | true =>
    rw [fanRise_of_fits hfind hfits] at hfind' ⊢
    obtain rfl : f.afterRise s.deckTime speed = f' := by simpa [hfind] using hfind'
    have hdraw := totalDraw_modFan hfind (fun x => x.afterRise s.deckTime speed) hload (f.afterRise_isLoad _ _)
    have hle := draw_le_totalDraw hfind hload
    rw [Fan.afterRise_draw] at hmore habove hdraw
    rcases headroom_iff.1 hfits with h | h <;> omega

end

/-- Settles O51: the law of R154 through the division, that of R155 through the headroom test. -/
theorem powerStaysWithinAllowance : Obligations.PowerStaysWithinAllowance := by
  unfold Obligations.PowerStaysWithinAllowance
  exact ⟨fun s all h => compute_grantedSum_le all h, fun s _ _ =>
    ⟨fun n r r' hfind hfind' hmore habove => rowRise_totalDraw_le hfind hfind' hmore habove,
     fun ch speed f f' hfind hload hfind' hmore habove => fanRise_totalDraw_le hfind hload hfind' hmore habove⟩⟩

end Sys2Proof.Machine
end

section
/-! The field loop: the requests it builds, its outputs, the ends of its transactions and what they record (chapter 8). -/

namespace Sys2Proof.Machine
variable {s t u : State}

/-! ### O53 -/

theorem Table.find_of_find? {α : Type} {t : Table α} {p : Nat × α → Bool} {n : Nat} {x y : α} (h : t.find? p = some (n, x))
    (hfind : t.find n = some y) (hy : p (n, y) = true) : x = y := by
  induction t with
  | nil => simp at h
  | cons q t ih =>
    obtain ⟨i, z⟩ := q
    rw [Table.find_cons] at hfind
    rw [List.find?_cons] at h
    by_cases hi : i = n
    · subst hi
      obtain rfl : z = y := by simpa using hfind
      rw [hy] at h
      exact ((Prod.mk.inj (Option.some.inj h)).2).symm
    · rw [if_neg hi] at hfind
      cases hp : p (i, z) with
      | true =>
        rw [hp] at h
        exact absurd (Prod.mk.inj (Option.some.inj h)).1 hi
      | false =>
        rw [hp] at h
        exact ih h hfind

section
variable {a n : Nat}

/-- The row of an address that one row alone has. -/
theorem rowOfNode_of_only {r : Row} (hfind : s.rows.find n = some r) (hnode : r.cfg.node = a)
    (honly : ∀ q ∈ s.rows, q.2.cfg.node = a → q.1 = n) : rowOfNode s a = some (n, r) := by
  unfold rowOfNode
  cases hq : s.rows.find? fun p => decide (p.2.cfg.node = a) with
  | none =>
    have := List.find?_eq_none.1 hq _ (Table.find_mem _ _ _ hfind)
    simp [hnode] at this
  | some q =>
    obtain ⟨i, x⟩ := q
    have hx : x.cfg.node = a := by simpa using List.find?_some hq
    obtain rfl : i = n := honly _ (List.mem_of_find?_eq_some hq) hx
    rw [Table.find_of_find? hq hfind (by simpa using hnode)]

theorem rowOfNode_of_none (h : ∀ q ∈ s.rows, q.2.cfg.node ≠ a) : rowOfNode s a = none :=
  List.find?_eq_none.2 fun q hq => by simpa using h q hq

theorem State.arrow_eq (s : State) (n : Nat) : s.arrow n = s.guidance.holds.any fun h => h.path.contains n := by
  rw [Bool.eq_iff_iff, State.arrow, State.pathHolds, decide_eq_true_eq, List.countP_pos_iff, List.any_eq_true]

theorem LevelCfg.names_iff {c : LevelCfg} : c.names a = true ↔ c.sign1 = some a ∨ c.sign2 = some a := by
  simp [LevelCfg.names]

/-- Of a rising table, the record of the least number that passes a test is the first that does. -/
theorem Table.find?_of_least {α : Type} {t : Table α} {p : Nat × α → Bool} {x : α} (hrising : t.rising = true)
    (hfind : t.find n = some x) (hx : p (n, x) = true) (hleast : ∀ q ∈ t, p q = true → n ≤ q.1) :
    t.find? p = some (n, x) := by
  induction t with
  | nil => simp at hfind
  | cons q t ih =>
    obtain ⟨i, z⟩ := q
    obtain ⟨habove, hrest⟩ := (Table.rising_cons i z t).1 hrising
    rw [Table.find_cons] at hfind
    by_cases hi : i = n
    · subst hi
      obtain rfl : z = x := by simpa using hfind
      rw [List.find?_cons, hx]
    · rw [if_neg hi] at hfind
      have hlater : i < n := habove _ (Table.find_mem _ _ _ hfind)
      have hfails : p (i, z) = false := Bool.eq_false_iff.2 fun hz => absurd (hleast _ (by simp) hz) hlater.not_ge
      rw [List.find?_cons, hfails]
      exact ih hrest hfind fun q hq => hleast q (List.mem_cons_of_mem _ hq)

theorem sumOf_eq_sum {α : Type} (f : α → Nat) (l : List α) : sumOf f l = (l.map f).sum := by
  induction l with
  | nil => rfl
  | cons x l ih => rw [sumOf_cons, ih, List.map_cons, List.sum_cons]

theorem State.levelOffered_eq (s : State) (n : Nat) :
    s.levelOffered n =
      ((s.rows.filter fun p => decide (p.2.cfg.level = n)).map fun p =>
        s.offeredCount p.1 0 + s.offeredCount p.1 1 + s.offeredCount p.1 2).sum := sumOf_eq_sum _ _

theorem buildRequest_of_bay (h : a < 128) :
    buildRequest s a = match s.pendingBand a with
      | some p => .setBand p.band
      | none => .pollBays := if_pos h

theorem buildRequest_of_head (h : 128 ≤ a) (h' : a < 160) : buildRequest s a = .pollGas := by
  simp [buildRequest, h.not_gt, h']

theorem buildRequest_of_row (h : 160 ≤ a) (h' : a < 224) : buildRequest s a = rowWrite s a := by
  simp [buildRequest, h.not_gt, h', show ¬ a < 128 by omega]

theorem buildRequest_of_sign (h : 224 ≤ a) : buildRequest s a = signWrite s a := by
  simp [buildRequest, h.not_gt, show ¬ a < 128 by omega, show ¬ a < 160 by omega]

end

/-- Settles O53: the entry at the position, the request by the range of its address, the frame by its kind. -/
theorem transactionsAreBuilt : Obligations.TransactionsAreBuilt := by
  unfold Obligations.TransactionsAreBuilt
  refine ⟨fun s => ⟨fun before a after hrun hlist hnext => ?begins, fun h => ?none⟩,
    fun s a => ⟨fun p ha hp => ?setBand, fun ha hp => ?pollBays, fun h h' => buildRequest_of_head h h',
      fun n r h h' hfind hnode honly => ?row, fun h h' hnone => ?noRow, fun n l h hrising hfind hnames hleast => ?sign,
      fun h hnone => ?noSign⟩,
    fun a level band sign arrow figure => ⟨⟨rfl, rfl⟩, ⟨rfl, rfl⟩, ⟨rfl, rfl⟩, ⟨rfl, rfl⟩, ⟨?figure, rfl⟩⟩⟩
  case begins =>
    have haddress : s.loop.pollList.getD (s.loop.next - 1) 0 = a := by simp [hlist, hnext]
    unfold startTransaction
    rw [if_pos ⟨hrun, by simp [hlist]⟩, haddress]
    rfl
  case none =>
    refine if_neg fun hboth => ?_
    rcases h with h | h
    · exact h hboth.1
    · exact hboth.2 h
  case setBand => rw [buildRequest_of_bay ha, hp]
  case pollBays => rw [buildRequest_of_bay ha, hp]
  case row =>
    rw [buildRequest_of_row h h', rowWrite, rowOfNode_of_only hfind hnode honly, ← State.arrow_eq]
    rfl
  case noRow => rw [buildRequest_of_row h h', rowWrite, rowOfNode_of_none hnone]
  case sign =>
    have hfirst : (s.levels.find? fun p => p.2.cfg.names a) = some (n, l) :=
      Table.find?_of_least hrising hfind (LevelCfg.names_iff.2 hnames) fun q hq hqa =>
        hleast q hq (LevelCfg.names_iff.1 hqa)
    rw [buildRequest_of_sign h, signWrite, hfirst, ← State.levelOffered_eq]
    rfl
  case noSign =>
    have hfirst : (s.levels.find? fun p => p.2.cfg.names a) = none :=
      List.find?_eq_none.2 fun q hq hqa => not_or.2 (hnone q hq) (LevelCfg.names_iff.1 hqa)
    rw [buildRequest_of_sign h, signWrite, hfirst]
  case figure =>
    cases figure with
    | none => rfl
    | some figure => cases figure <;> rfl

/-! ### O54 -/

section
variable {ch : Nat} {st : Station}

theorem fanPins_of_held (h : s.control.resetHeld = true) :
    s.fanPins ch = { pulseHz := 0, dir := Config.restartDirectionLine ch, run := false } := if_pos h

theorem fanPins_of_fan {f : Fan} (h : s.control.resetHeld = false) (hfind : s.fans.find ch = some f) :
    s.fanPins ch =
      { pulseHz := f.commanded * 100, dir := decide (f.direction = .reverse), run := decide (0 < f.commanded) } := by
  simp [State.fanPins, h, hfind]

theorem fanPins_of_none (h : s.control.resetHeld = false) (hfind : s.fans.find ch = none) :
    s.fanPins ch = { pulseHz := 0, dir := false, run := false } := by
  simp [State.fanPins, h, hfind]

theorem fde_of_held (h : s.control.resetHeld = true) : s.fde = false := by simp [State.fde, h]

theorem fde_of_none (h : s.loop.current = none) : s.fde = false := by simp [State.fde, h]

theorem fde_of_current {r : Transaction} (h : s.control.resetHeld = false) (hcur : s.loop.current = some r) :
    s.fde = !r.sent := by simp [State.fde, h, hcur]

theorem sending_of_released (h : s.fde = false) : s.sending = [] := by simp [State.sending, h]

theorem transmits_of_released (hrun : s.control.resetHeld = false) (h : s.fde = false) : s.transmits = [true] := by
  simp [State.transmits, hrun, h]

theorem transmits_of_driven (hrun : s.control.resetHeld = false) (h : s.fde = true) :
    s.transmits = s.sending.flatMap charLevels := by
  simp [State.transmits, hrun, h]

theorem sending_of_driven {r : Transaction} (h : s.fde = true) (hcur : s.loop.current = some r) :
    s.sending = requestChars r.address r.request := by simp [State.sending, h, hcur]

end

theorem frameChars_data (bytes : List Byte) : (frameChars bytes).map (·.data) = bytes := by
  cases bytes with
  | nil => rfl
  | cons b rest => simp [frameChars, Function.comp_def]

theorem frameChars_stopOk {bytes : List Byte} {c : FieldChar} (h : c ∈ frameChars bytes) : c.stopOk = true := by
  cases bytes with
  | nil => simp [frameChars] at h
  | cons b rest =>
    rcases List.mem_cons.1 h with rfl | h
    · rfl
    · obtain ⟨_, _, rfl⟩ := List.mem_map.1 h
      rfl

/-- The characters of a request: the address first, with its marker, then the others without (R161). -/
theorem requestChars_eq (address : Nat) (r : FieldRequest) :
    ∃ c rest, requestChars address r = c :: rest ∧ c.data = BitVec.ofNat 8 address ∧ c.marker = true ∧
      ∀ x ∈ rest, x.marker = false := by
  refine ⟨_, _, rfl, rfl, rfl, fun x hx => ?_⟩
  obtain ⟨_, _, rfl⟩ := List.mem_map.1 hx
  rfl

theorem charLevels_getElem? (c : FieldChar) {k : Nat} (h : k < 8) : (charLevels c)[k + 1]? = some (c.data.getLsbD k) := by
  have hbit : ((List.range 8).map c.data.getLsbD)[k]? = some (c.data.getLsbD k) := by simp [h]
  unfold charLevels
  rw [List.getElem?_cons_succ, List.getElem?_append_left (by simpa using h), hbit]

theorem Response.frame_eq (r : Response) :
    r.frame =
      withCrc
        (joinFields [1, 1, 1, 1, 1]
          [r.contents.length + 7, r.tag, r.code, r.status.code,
           (if r.flags.commandOverrun then 1 else 0) + (if r.flags.eventsWaiting then 2 else 0) +
            (if r.flags.more then 4 else 0) + (if r.flags.config then 8 else 0) +
            (if r.flags.profileBusy then 16 else 0)] ++ r.contents) := rfl

/-- Settles O54: each output by the case of the state it follows. -/
theorem outputsFollowState : Obligations.OutputsFollowState := by
  unfold Obligations.OutputsFollowState
  refine ⟨fun s ch => ⟨fun h => ?_, fun h => ⟨fun f hfind => ?_, fun hfind => fanPins_of_none h hfind⟩⟩,
    fun s => ⟨fun h => ⟨fde_of_held h, sending_of_released (fde_of_held h)⟩,
      fun r h hcur => ⟨fun hsent => ?sent, fun hsent => ?sending⟩, fun h hcur => ?idle, rfl⟩,
    fun c => ⟨by simp [charLevels], rfl, fun k hk => charLevels_getElem? c hk, rfl, rfl⟩,
    fun s st h => ⟨?notice, fun r past htrans => ?frame, fun past htrans => ?empty⟩⟩
  · rw [fanPins_of_held h]
    exact ⟨rfl, rfl⟩
  · rw [fanPins_of_fan h hfind]
    simp
  case sent =>
    have hfde : s.fde = false := by rw [fde_of_current h hcur, hsent]; rfl
    exact ⟨hfde, sending_of_released hfde, transmits_of_released h hfde⟩
  case sending =>
    have hfde : s.fde = true := by rw [fde_of_current h hcur, hsent]; rfl
    refine ⟨hfde, transmits_of_driven h hfde, ?_⟩
    rw [sending_of_driven hfde hcur]
    exact ⟨frameChars_data _, fun c hc => frameChars_stopOk hc, requestChars_eq _ _⟩
  case idle =>
    have hfde := fde_of_none hcur
    exact ⟨hfde, sending_of_released hfde, transmits_of_released h hfde⟩
  case notice => simp [State.notice, h, Port.notice]
  case frame =>
    simp only [State.shiftsOut, h, Bool.false_eq_true, if_false, Port.shiftsOut, htrans]
    exact r.frame_eq
  case empty => simp [State.shiftsOut, h, Port.shiftsOut, htrans]

/-! ### O55 -/

section
variable {tr : Transaction} {chars : List FieldChar}

theorem finishTransaction_of_running (hcur : s.loop.current = some tr) (h : s.loop.state = .running) :
    finishTransaction chars s = endTransaction tr chars s := by
  simp [finishTransaction, hcur, h]

theorem finishTransaction_of_not_running (hcur : s.loop.current = some tr) (h : s.loop.state ≠ .running) :
    finishTransaction chars s = endDrain s := by
  simp [finishTransaction, hcur, h]

theorem requestSent_of_current (hcur : s.loop.current = some tr) :
    requestSent s = { s with loop := { s.loop with current := some { tr with sent := true } } } := by
  simp only [requestSent, hcur]
  rfl

theorem replyCharacters_of_fewer (hcur : s.loop.current = some tr) (hsent : tr.sent = true)
    (h : tr.received.length + chars.length < tr.request.replyLength) :
    replyCharacters chars s = { s with loop := { s.loop with current := some { tr with received := tr.received ++ chars } } } := by
  have hlen : ¬ tr.request.replyLength ≤ (tr.received ++ chars).length := by rw [List.length_append]; omega
  simp only [replyCharacters, hcur, hsent, if_true, if_neg hlen]
  rfl

theorem replyCharacters_of_all (hcur : s.loop.current = some tr) (hsent : tr.sent = true)
    (h : tr.received.length + chars.length = tr.request.replyLength) :
    replyCharacters chars s = finishTransaction (tr.received ++ chars) s := by
  have hlen : (tr.received ++ chars).length = tr.request.replyLength := by rw [List.length_append, h]
  have htake : (tr.received ++ chars).take tr.request.replyLength = tr.received ++ chars := List.take_of_length_le hlen.le
  simp only [replyCharacters, hcur, hsent, if_true, if_pos hlen.ge, htake]

theorem replyExpires_of_sent (hcur : s.loop.current = some tr) (hsent : tr.sent = true) :
    replyExpires s = finishTransaction tr.received s := by
  simp [replyExpires, hcur, hsent]

theorem FieldLoop.advanced_eq (l : FieldLoop) :
    l.advanced = { l with next := if l.pollList = [] then 0 else if l.next < l.pollList.length then l.next + 1 else 1 } := by
  cases h : l.pollList with
  | nil => simp [FieldLoop.advanced, h]
  | cons a rest => simp [FieldLoop.advanced, h]

theorem endTransaction_eq (tr : Transaction) (chars : List FieldChar) (s : State) :
    endTransaction tr chars s =
      let s1 := recordOutcome tr.address (judge tr chars) { s with loop := { s.loop with current := none } }
      let s2 := if judge tr chars = .ok then deliverReply tr (chars.map (·.data)) s1 else s1
      startTransaction
        { s2 with
          loop :=
            { s2.loop with
              next := if s2.loop.pollList = [] then 0
                else if s2.loop.next < s2.loop.pollList.length then s2.loop.next + 1 else 1 } } := by
  have hadvanced (u : State) :
      startTransaction (u.setLoop u.loop.advanced) =
        startTransaction
          { u with
            loop :=
              { u.loop with
                next := if u.loop.pollList = [] then 0
                  else if u.loop.next < u.loop.pollList.length then u.loop.next + 1 else 1 } } := by
    rw [FieldLoop.advanced_eq]
    rfl
  exact hadvanced _

end

/-- Settles O55: each step by the characters it brings, the end by the loop's state. -/
theorem fieldTransactionsEnd : Obligations.FieldTransactionsEnd := by
  unfold Obligations.FieldTransactionsEnd
  intro s t hrun ended
  have hended (hcur : s.loop.current = some t) (chars : List FieldChar) : finishTransaction chars s = ended chars := by
    by_cases h : s.loop.state = .running
    · rw [finishTransaction_of_running hcur h, endTransaction_eq]
      exact (if_pos h).symm
    · rw [finishTransaction_of_not_running hcur h]
      exact (if_neg h).symm
  refine ⟨fun hcur => ?_, fun chars hcur hsent hlen => ?_, fun chars hcur hsent hlen => ?_, fun c hcur hsent hlen => ?_,
    fun c hcur hsent hlen => ?_, fun hcur hsent => ?_, fun hcur hstate => ?_⟩
  · rw [exec_running (f := requestSent) hrun rfl, requestSent_of_current hcur]
  · rw [exec_running (f := replyCharacters chars) hrun rfl, replyCharacters_of_fewer hcur hsent hlen]
  · rw [exec_running (f := replyCharacters chars) hrun rfl, replyCharacters_of_all hcur hsent hlen, hended hcur]
  · rw [exec_running (f := replyCharacters [c]) hrun rfl, replyCharacters_of_fewer (chars := [c]) hcur hsent hlen]
  · rw [exec_running (f := replyCharacters [c]) hrun rfl, replyCharacters_of_all (chars := [c]) hcur hsent hlen, hended hcur]
  · rw [exec_running (f := replyExpires) hrun rfl, replyExpires_of_sent hcur hsent, hended hcur]
  · rw [exec_running (f := drainEnds) hrun rfl]
    simp only [drainEnds, hstate, hcur, true_and, if_true, endDrain]
    rw [← hcur]
    rfl

end Sys2Proof.Machine
end

section
/-! Outcomes and health of the nodes (sections 8.3 and 8.4); what a zone takes of its heads (sections 5.2 and 5.3). -/

namespace Sys2Proof.Machine
variable {s t u : State}

/-! ### Tables in which unlisted numbers hold a default -/

section
variable {α : Type} {t : Table α}

theorem Table.find_erase (h : t.rising = true) (k j : Nat) : (Table.erase k t).find j = if j = k then none else t.find j := by
  induction t with
  | nil => simp [Table.erase]
  | cons q t ih =>
    obtain ⟨i, x⟩ := q
    obtain ⟨habove, hrest⟩ := (Table.rising_cons i x t).1 h
    have hnone : Table.find t i = none := Table.find_above i i t habove le_rfl
    by_cases hi : i = k
    · subst hi
      rw [Table.erase, if_pos rfl, Table.find_cons]
      split
      next hj => rw [hj, hnone]
      next hj => rw [if_neg fun hji => hj hji.symm]
    · rw [Table.erase, if_neg hi, Table.find_cons, Table.find_cons, ih hrest]
      by_cases hij : i = j
      · rw [if_pos hij, if_pos hij, if_neg fun hjk => hi (hij.trans hjk)]
      · rw [if_neg hij, if_neg hij]

theorem Table.findD_putD [DecidableEq α] (h : t.rising = true) (k j : Nat) (v d : α) :
    (t.putD k v d).findD j d = if j = k then v else t.findD j d := by
  unfold Table.putD Table.findD
  split
  next hv =>
    rw [Table.find_erase h]
    split
    · exact hv.symm
    · rfl
  next =>
    rw [Table.find_put _ _ _ _ h]
    split <;> rfl

end

/-! ### O56 -/

section
variable {tr : Transaction} {chars : List FieldChar}

/-- Whether the characters of a reply are framed (R161). -/
theorem framedWell_iff :
    framedWell chars = true ↔
      (∀ c ∈ chars, c.stopOk = true) ∧ (∀ c, chars.head? = some c → c.marker = true) ∧ ∀ c ∈ chars.tail, c.marker = false := by
  cases chars with
  | nil => simp [framedWell]
  | cons c rest =>
    simp only [framedWell, Bool.and_eq_true, List.all_eq_true, Bool.not_eq_true', List.forall_mem_cons, List.head?_cons,
      Option.some.injEq, forall_eq', List.tail_cons, forall_and]
    tauto

/-- Whether a reply comes from the address asked. -/
def addressGood (tr : Transaction) (chars : List FieldChar) : Bool := decide ((chars.map (·.data.toNat)).headD 0 = tr.address)

theorem addressGood_iff (h : chars ≠ []) :
    addressGood tr chars = true ↔ ∃ c rest, chars = c :: rest ∧ c.data.toNat = tr.address := by
  cases chars with
  | nil => exact absurd rfl h
  | cons c rest => simp [addressGood]

theorem FieldRequest.replyLength_pos (r : FieldRequest) : 0 < r.replyLength := by
  cases r <;> exact Nat.succ_pos _

theorem judge_eq (tr : Transaction) (chars : List FieldChar) :
    judge tr chars =
      if chars.length < tr.request.replyLength then .noReply
      else if framedWell chars then
        if crcGood (chars.map (·.data)) then if addressGood tr chars then .ok else .wrongAddress else .crcError
      else .frameError := by
  unfold judge addressGood
  cases framedWell chars <;> cases crcGood (chars.map (·.data)) <;> simp

end

section
variable {r : HealthRecord} {now : Time} {outcome : FieldOutcome}

theorem HealthRecord.after_ok : r.after now .ok = { health := .ok, failures := 0, lastOutcome := some .ok, lastOk := some now } :=
  if_pos rfl

theorem HealthRecord.after_failure (h : outcome ≠ .ok) :
    r.after now outcome =
      { health := if min 65535 (r.failures + 1) < 3 then .missing else .fault, failures := min 65535 (r.failures + 1),
        lastOutcome := some outcome, lastOk := r.lastOk } := if_neg h

end

theorem gasReading_sensorFault (bytes : List Byte)
    (h : 4095 < leNat ((bytes.drop 1).take 2) ∨ 4095 < leNat ((bytes.drop 3).take 2)) :
    (gasReading bytes).flags.sensorFault = true := by
  have hout : (decide (4095 < leNat ((bytes.drop 1).take 2)) || decide (4095 < leNat ((bytes.drop 3).take 2))) = true := by
    simpa only [Bool.or_eq_true, decide_eq_true_eq] using h
  simp only [gasReading, hout, Bool.or_true]

/-- The health records after an outcome: that of its address alone is new (R167). -/
theorem recordOutcome_nodeRecord {address : Nat} {outcome : FieldOutcome} (hrising : s.loop.health.rising = true) (a : Nat) :
    (recordOutcome address outcome s).nodeRecord a =
      if a = address then (s.nodeRecord address).after s.deckTime outcome else s.nodeRecord a := by
  unfold recordOutcome State.nodeRecord
  rw [(handHealth_within ..).loop_eq (by decide), (postNodeState_within ..).loop_eq (by decide)]
  exact Table.findD_putD hrising ..

section
variable {address : Nat} {old new : HealthRecord} {outcome : FieldOutcome}

theorem postNodeState_of_entered (h : old.health ≠ .fault) (h' : new.health = .fault) :
    postNodeState address old new outcome s = post .nodeState address 1 outcome.code s := if_pos ⟨h', h⟩

theorem postNodeState_of_left (h : old.health = .fault) (h' : new.health ≠ .fault) :
    postNodeState address old new outcome s = post .nodeState address 0 old.failures s := by
  unfold postNodeState
  rw [if_neg fun hc => h' hc.1, if_pos ⟨h, h'⟩]

theorem postNodeState_of_other (h : old.health = new.health ∨ (old.health ≠ .fault ∧ new.health ≠ .fault)) :
    postNodeState address old new outcome s = s := by
  unfold postNodeState
  rw [if_neg (by rintro ⟨h1, h2⟩; simp_all), if_neg (by rintro ⟨h1, h2⟩; simp_all)]

end

/-- Settles O56: the tests in their order, the record by the outcome, the events by the change of health. -/
theorem outcomesGiveHealth : Obligations.OutcomesGiveHealth := by
  unfold Obligations.OutcomesGiveHealth
  refine ⟨fun t chars => ?judged, ⟨rfl, rfl, rfl, rfl, rfl⟩, gasReading_sensorFault, fun s address outcome => ?record⟩
  case judged =>
    intro short framed checked' addressed
    have hshort : chars.length < t.request.replyLength ↔ short := Iff.rfl
    have hframed : framedWell chars = true ↔ framed := framedWell_iff
    have hchecked : crcGood (chars.map (·.data)) = true ↔ checked' := Iff.rfl
    rw [judge_eq]
    by_cases h1 : short
    · rw [if_pos (hshort.2 h1)]
      simp [h1]
    have haddressed : addressGood t chars = true ↔ addressed := by
      refine addressGood_iff fun hnil => h1 ?_
      simpa [short, hnil] using t.request.replyLength_pos
    rw [if_neg fun h => h1 (hshort.1 h)]
    by_cases h2 : framed
    · rw [if_pos (hframed.2 h2)]
      by_cases h3 : checked'
      · rw [if_pos (hchecked.2 h3)]
        by_cases h4 : addressed
        · rw [if_pos (haddressed.2 h4)]
          simp [h1, h2, h3, h4]
        · rw [if_neg fun h => h4 (haddressed.1 h)]
          simp [h1, h2, h3, h4]
      · rw [if_neg fun h => h3 (hchecked.1 h)]
        simp [h1, h2, h3]
    · rw [if_neg fun h => h2 (hframed.1 h)]
      simp [h1, h2]
  case record =>
    intro r r'
    refine ⟨fun hok => ?_, fun hfail hlow => ?_, fun hfail hhigh => ?_,
      fun hrising => ⟨?_, fun a ha => ?_⟩, fun before => ⟨postNodeState_of_entered, postNodeState_of_left,
        postNodeState_of_other⟩⟩
    · simp only [r', hok, HealthRecord.after_ok]
    · have hmin : min 65535 (r.failures + 1) = r.failures + 1 := by omega
      rw [show r' = _ from HealthRecord.after_failure hfail, hmin]
      refine ⟨rfl, rfl, rfl, ?_, ?_⟩
      · split <;> simp <;> omega
      · split <;> simp <;> omega
    · have hmin : min 65535 (r.failures + 1) = 65535 := by omega
      rw [show r' = _ from HealthRecord.after_failure hfail, hmin]
      exact ⟨rfl, rfl, rfl, rfl⟩
    · rw [recordOutcome_nodeRecord hrising, if_pos rfl]
    · rw [recordOutcome_nodeRecord hrising, if_neg ha]

/-! ### O43 -/

theorem maxOf_cons (x : Nat) (l : List Nat) : maxOf (x :: l) = max x (maxOf l) := rfl

theorem le_maxOf {x : Nat} {l : List Nat} (h : x ∈ l) : x ≤ maxOf l := by
  induction l with
  | nil => simp at h
  | cons y l ih =>
    rw [maxOf_cons]
    rcases List.mem_cons.1 h with rfl | h
    · exact le_max_left _ _
    · exact (ih h).trans (le_max_right _ _)

theorem maxOf_mem {l : List Nat} (h : l ≠ []) : maxOf l ∈ l := by
  induction l with
  | nil => exact absurd rfl h
  | cons x l ih =>
    rw [maxOf_cons]
    rcases le_total (maxOf l) x with hle | hle
    · simp [max_eq_left hle]
    · rw [max_eq_right hle]
      cases l with
      | nil => simp [show x = 0 by simpa [maxOf] using hle, maxOf]
      | cons y l => exact List.mem_cons_of_mem _ (ih (by simp))

section
variable {zone : Nat} {z : Zone}

theorem usableHeads_eq (s : State) (zone : Nat) :
    s.usableHeads zone =
      (s.heads.filter fun p =>
        decide (p.2.cfg.zone = zone ∧ (p.2.health = .valid ∨ p.2.health = .stale))).map (·.2) := by
  simp only [State.usableHeads, Head.usable, Bool.decide_and, Bool.decide_or]

theorem refreshZone_of_failsafe (hfind : s.zones.find zone = some z) (hnone : s.usableHeads zone = [])
    (hsafe : z.failsafe = true) : refreshZone zone s = s := by
  simp [refreshZone, hfind, hnone, hsafe]

theorem refreshZone_of_entering (hfind : s.zones.find zone = some z) (hnone : s.usableHeads zone = [])
    (hsafe : z.failsafe = false) :
    refreshZone zone s =
      post .zoneFailsafe zone 1 z.stage (s.modZone zone fun z => { z with failsafe := true, dwell := none }) := by
  simp [refreshZone, hfind, hnone, hsafe]

/-- With a usable head a zone takes its values and stands out of FAILSAFE (R102, R112). -/
theorem refreshZone_of_heads (hfind : s.zones.find zone = some z) (hheads : s.usableHeads zone ≠ []) :
    refreshZone zone s =
      if z.failsafe then
        post .zoneFailsafe zone 0 z.stage
          (s.modZone zone fun z =>
            { z with
              failsafe := false
              coInst := (instValues (s.usableHeads zone)).1, no2Inst := (instValues (s.usableHeads zone)).2 })
      else
        s.modZone zone fun z =>
          { z with
            failsafe := false
            coInst := (instValues (s.usableHeads zone)).1, no2Inst := (instValues (s.usableHeads zone)).2 } := by
  have hempty : (s.usableHeads zone).isEmpty = false := by simpa using hheads
  simp only [refreshZone, hfind, hempty, Bool.false_eq_true, if_false]
  split
  · rw [post_modZone, State.modZone_modZone]
  next hsafe => exact modZone_of_find hfind (by simp [hsafe])

theorem largest_maxOf {heads : List Head} (h : heads ≠ []) (f : HeadValues → Nat) :
    (∀ x ∈ heads, (x.values.map f).getD 0 ≤ maxOf (heads.map fun x => (x.values.map f).getD 0)) ∧
      ∃ x ∈ heads, (x.values.map f).getD 0 = maxOf (heads.map fun x => (x.values.map f).getD 0) :=
  ⟨fun _ hx => le_maxOf (List.mem_map_of_mem hx), List.mem_map.1 (maxOf_mem (by simpa using h))⟩

end

theorem postHeadState_of_same {head : Nat} {old new : HeadHealth} (h : old = new) : postHeadState head old new s = s := if_pos h

theorem postHeadState_of_change {head : Nat} {old new : HeadHealth} (h : old ≠ new) :
    postHeadState head old new s = post .headState head new.code old.code s := if_neg h

/-- A change of a head's health by its node's, with what follows it (R99, R100). -/
theorem headNodeChange_of_find {head : Nat} {h : Head} (node : NodeHealth) (hfind : s.heads.find head = some h) :
    headNodeChange head node s =
      if headAfterNode node h.health = h.health then s
      else
        settle s
          (evaluateZone h.cfg.zone
            (refreshZone h.cfg.zone
              (post .headState head (headAfterNode node h.health).code h.health.code
                (s.modHead head fun x => { x with health := headAfterNode node h.health })))) := by
  simp only [headNodeChange, hfind]
  split
  · rfl
  next hne => rw [postHeadState_of_change fun heq => hne heq.symm]

/-- Settles O43: the zone by its usable heads, the head by its node's health, the reply in its steps. -/
theorem zonesFollowHeads : Obligations.ZonesFollowHeads := by
  unfold Obligations.ZonesFollowHeads
  refine ⟨fun s zone z hfind => ?zone, fun s head node h hfind => ?node, fun s zone z hfind hco hno2 hsamples => ?samples,
    fun s head r h hfind => ?reply⟩
  case zone =>
    intro hs t largest
    have hheads : s.usableHeads zone = hs := usableHeads_eq s zone
    refine ⟨fun hnone hsafe => refreshZone_of_failsafe hfind (hheads.trans hnone) hsafe,
      fun hnone hsafe => refreshZone_of_entering hfind (hheads.trans hnone) hsafe, fun hsome => ?_⟩
    exact ⟨_, _, largest_maxOf hsome _, largest_maxOf hsome _,
      hheads ▸ refreshZone_of_heads hfind (fun hnone => hsome (hheads.symm.trans hnone))⟩
  case node =>
    intro changed
    rw [headNodeChange_of_find node hfind]
    cases node with
    | fault =>
      by_cases hf : h.health = .fault
      · simp [headAfterNode, hf]
      · have hne : ¬ HeadHealth.fault = h.health := Ne.symm hf
        simp [headAfterNode, hf, hne, changed]
    | missing =>
      by_cases hv : h.health = .valid
      · simp [headAfterNode, hv, changed]
      · simp [headAfterNode, hv]
    | ok => simp [headAfterNode]
  case samples =>
    refine modZone_of_find hfind ?_
    simp only [Nat.mod_eq_of_lt (show z.coSum + z.coInst < 4294967296 from hco),
      Nat.mod_eq_of_lt (show z.no2Sum + z.no2Inst < 4294967296 from hno2),
      Nat.mod_eq_of_lt (show z.samples + 1 < 4294967296 from hsamples)]
  case reply =>
    simp only [gasReply, hfind]
    rfl

end Sys2Proof.Machine
end

section
/-! Learning bays, the FAULT of a bay node, and the settling of band changes (sections 1.2 to 1.6). -/

namespace Sys2Proof.Machine
variable {s t u : State}

/-! ### O58 -/

section
variable {n : Nat} {b : Bay}

theorem baySample_of_no_record (hfind : s.bays.find n = none) (entry : Option Nat) : baySample n entry s = s := by
  simp [baySample, hfind]

theorem baySample_of_learning {c ref : Nat} (hfind : s.bays.find n = some b) (hlearn : b.learning = true)
    (href : b.cfg.reference (s.bandRecord b.cfg.node).band = some ref) :
    baySample n (some c) s = learningSample n b ref c s := by
  simp [baySample, hfind, hlearn, href]

/-- The third invalid mark in a row of a bay that is not UNKNOWN (R3). -/
theorem invalidSample_of_third (hfind : s.bays.find n = some b) (hrun : min 3 (b.invalidRun + 1) = 3) (hb : b.sensed ≠ .unknown) :
    invalidSample n b s =
      senseChange n .unknown 0 (s.modBay n fun _ => { b with invalidRun := 3, onRun := 0, offRun := 0, window := [] }) := by
  have hmod : (s.modBay n fun b => { b with invalidRun := 3, onRun := 0, offRun := 0, window := [] }) =
      s.modBay n fun _ => { b with invalidRun := 3, onRun := 0, offRun := 0, window := [] } := modBay_of_find hfind rfl
  simp only [invalidSample, hrun, true_and, if_pos hb, hmod]

theorem invalidSample_of_other (hfind : s.bays.find n = some b) (h : min 3 (b.invalidRun + 1) < 3 ∨ b.sensed = .unknown) :
    invalidSample n b s = s.modBay n fun _ => { b with invalidRun := min 3 (b.invalidRun + 1) } := by
  have hnot : ¬ (min 3 (b.invalidRun + 1) = 3 ∧ b.sensed ≠ .unknown) := by
    rintro ⟨h3, hb⟩
    rcases h with h | h
    · omega
    · exact hb h
  simp only [invalidSample, if_neg hnot]
  exact modBay_of_find hfind rfl

theorem learningSample_of_early {ref c : Nat} (hfind : s.bays.find n = some b) (h : b.learnProgress + 1 < 4) :
    learningSample n b ref c s =
      s.modBay n fun _ =>
        { b with learnProgress := b.learnProgress + 1, learnSum := b.learnSum + c, lastCount := some c, invalidRun := 0 } := by
  simp only [learningSample, if_pos h]
  exact modBay_of_find hfind rfl

/-- The fourth sample of a learning bay (R6). -/
theorem learningSample_of_last {ref c : Nat} (hfind : s.bays.find n = some b) (h : 4 ≤ b.learnProgress + 1) :
    learningSample n b ref c s =
      senseChangeIf n b.sensed (learnOutcome ((b.learnSum + c) / 4) ref b.cfg.onThr).2 0
        (s.modBay n fun _ =>
          { b with baseline := (learnOutcome ((b.learnSum + c) / 4) ref b.cfg.onThr).1, learning := false,
                   learnProgress := 0, learnSum := 0, onRun := 0, offRun := 0, window := [], lastCount := some c,
                   invalidRun := 0 }) := by
  simp only [learningSample, if_neg h.not_gt]
  exact congrArg _ (modBay_of_find hfind rfl)

theorem learnOutcome_eq (mean ref onThr : Nat) :
    learnOutcome mean ref onThr =
      (if ref + onThr ≤ mean then ref else mean, if ref + onThr ≤ mean then .present else .vacant) := by
  unfold learnOutcome
  split <;> rfl

theorem senseChangeIf_eq (old new : Sensed) (cause : Nat) :
    senseChangeIf n old new cause s = if old = new then s else senseChange n new cause s := rfl

theorem handHealth_of_bay {address : Nat} {old new : NodeHealth} {before : State} (h : address < 128) :
    handHealth address old new before s = if old = new then s else if new = .fault then nodeFaultBays address s else s := by
  simp [handHealth, h]

theorem bayNodeFault_of_find (hfind : s.bays.find n = some b) :
    bayNodeFault n s =
      senseChangeIf n b.sensed .unknown 1
        (s.modBay n fun _ =>
          { b with onRun := 0, offRun := 0, invalidRun := 0, window := [], learnProgress := 0, learnSum := 0 }) := by
  simp only [bayNodeFault, hfind]
  exact congrArg _ (modBay_of_find hfind rfl)

/-- A change to UNKNOWN stamps its bay and changes no other (R17). -/
theorem senseChange_unknown_bays (n cause : Nat) (s : State) :
    (senseChange n .unknown cause s).bays =
      s.bays.modify n fun b => { b with sensed := .unknown, changedAt := some s.deckTime } := by
  cases hfind : s.bays.find n with
  | none =>
    rw [Table.modify_of_not_find _ _ _ hfind]
    simp [senseChange, hfind]
  | some b =>
    simp only [senseChange, hfind, allocationOfChange]
    rw [(settle_within ..).bays_eq (by decide), (censusOfChange_within ..).bays_eq (by decide),
      (triggerRow_within ..).bays_eq (by decide), (levelCheck_within ..).bays_eq (by decide),
      (postBayEvents_within ..).bays_eq (by decide)]
    rfl

/-- A bay of a node that enters FAULT (R16). -/
def Bay.nodeFaulted (now : Time) (b : Bay) : Bay :=
  { b with
    sensed := .unknown
    changedAt := if b.sensed = .unknown then b.changedAt else some now
    onRun := 0, offRun := 0, invalidRun := 0, window := [], learnProgress := 0, learnSum := 0 }

theorem bayNodeFault_bays (n : Nat) (s : State) : (bayNodeFault n s).bays = s.bays.modify n (Bay.nodeFaulted s.deckTime) := by
  cases hfind : s.bays.find n with
  | none =>
    rw [Table.modify_of_not_find _ _ _ hfind]
    simp [bayNodeFault, hfind]
  | some b =>
    rw [bayNodeFault_of_find hfind, senseChangeIf_eq]
    split
    next hb => exact Table.modify_of_find _ _ _ _ _ hfind (by simp [Bay.nodeFaulted, hb])
    next hb =>
      rw [senseChange_unknown_bays]
      refine (Table.modify_modify ..).trans (Table.modify_of_find _ _ _ _ _ hfind ?_)
      simp [Bay.nodeFaulted, hb]

theorem bayNodeFault_deckTime (n : Nat) (s : State) : (bayNodeFault n s).deckTime = s.deckTime := by
  cases hfind : s.bays.find n with
  | none => simp [bayNodeFault, hfind]
  | some b =>
    rw [bayNodeFault_of_find hfind, (senseChangeIf_within ..).deckTime]
    rfl

theorem forEach_bayNodeFault_bays (l : List Nat) (s : State) :
    (forEach l bayNodeFault s).bays = l.foldl (fun t n => Table.modify n (Bay.nodeFaulted s.deckTime) t) s.bays := by
  induction l generalizing s with
  | nil => rfl
  | cons n l ih => rw [forEach_cons, ih, bayNodeFault_bays, bayNodeFault_deckTime, List.foldl_cons]

/-- The bays after the FAULT of a node: its own alone are new (R16). -/
theorem nodeFaultBays_bays (node : Nat) (hrising : s.bays.rising = true) :
    (nodeFaultBays node s).bays =
      s.bays.mapRecords fun _ b => if b.cfg.node = node then b.nodeFaulted s.deckTime else b := by
  unfold nodeFaultBays Table.numbers State.baysOf
  rw [forEach_bayNodeFault_bays, foldl_modify_filter hrising]
  simp only [decide_eq_true_eq]

end

/-- Settles O58: the samples by the bay's state, the FAULT bay by bay. -/
theorem baysLearnAndFail : Obligations.BaysLearnAndFail := by
  unfold Obligations.BaysLearnAndFail
  refine ⟨fun s n hfind entry => baySample_of_no_record hfind entry, fun s n b hfind => ?samples,
    fun address old new before s haddress => ?health, fun s n b hfind => ?bay, fun s node hrising => ?node⟩
  case samples =>
    intro run
    refine ⟨fun hrun hb => ?_, fun h => ?_, fun c ref hlearn href => ⟨fun hearly => ?_, fun hlast => ?_⟩⟩
    · rw [baySample_none hfind, invalidSample_of_third hfind hrun hb]
    · rw [baySample_none hfind, invalidSample_of_other hfind h]
    · rw [baySample_of_learning hfind hlearn href, learningSample_of_early hfind hearly]
    · rw [baySample_of_learning hfind hlearn href, learningSample_of_last hfind hlast, learnOutcome_eq, senseChangeIf_eq]
  case health =>
    rw [handHealth_of_bay haddress]
    refine ⟨fun hnew => ?_, fun hnew hold => ?_⟩
    · rw [if_neg hnew, ite_self]
    · rw [if_neg fun heq => hold (heq.trans hnew), if_pos hnew]
  case bay => rw [bayNodeFault_of_find hfind, senseChangeIf_eq]
  case node =>
    intro t
    refine ⟨rfl, fun n => ?_⟩
    rw [show t.bays = _ from nodeFaultBays_bays node hrising, Table.find_mapRecords]
    rfl

/-! ### O60 -/

section
variable {node : Nat}

theorem bandCovered_iff {k : Nat} :
    bandCovered s node k = true ↔ ∀ p ∈ s.bays, p.2.cfg.node = node → (p.2.cfg.reference k).isSome = true := by
  simp [bandCovered, State.baysOf, imp_iff_not_or]

theorem recentChanges_eq (now : Time) (r : BandRecord) :
    recentChanges now r = (r.changes.filter fun t => decide (Time.since now t < 6000)).length :=
  List.countP_eq_length_filter

/-- The windows of a node's bays emptied, in a state with the bays of another (R13). -/
theorem modBaysOf_emptied (f : Bay → Bay) (h : t.bays = s.bays) :
    modBaysOf node f t = { t with bays := s.bays.mapRecords fun _ b => if b.cfg.node = node then f b else b } := by
  unfold modBaysOf
  rw [h]

theorem requestBandChange_of_limit (h : 3 ≤ recentChanges s.deckTime (s.bandRecord node)) :
    requestBandChange node s =
      modBaysOf node (fun b => { b with window := [] }) (post .nodeNoisy node (s.bandRecord node).band 1 s) := by
  simp only [requestBandChange, if_pos h]

theorem requestBandChange_of_next {k : Nat} (h : ¬ 3 ≤ recentChanges s.deckTime (s.bandRecord node))
    (hnext : nextBand s node (s.bandRecord node).band = some k) :
    requestBandChange node s =
      modBaysOf node (fun b => { b with window := [] }) (makePending node { counted := true, band := k } s) := by
  simp only [requestBandChange, if_neg h, hnext]

theorem requestBandChange_of_no_next (h : ¬ 3 ≤ recentChanges s.deckTime (s.bandRecord node))
    (hnext : nextBand s node (s.bandRecord node).band = none) :
    requestBandChange node s =
      modBaysOf node (fun b => { b with window := [] }) (post .nodeNoisy node (s.bandRecord node).band 0 s) := by
  simp only [requestBandChange, if_neg h, hnext]

theorem bandReply_of_pending {sent : Nat} {bytes : List Byte} {p : PendingBand} (h : s.pendingBand node = some p) :
    bandReply node sent bytes s =
      if (bytes.getD 1 0#8).toNat = sent then
        acknowledgeBand node p { s with loop := { s.loop with pendingBands := s.loop.pendingBands.erase node } }
      else s := by
  simp only [bandReply, h]
  rfl

/-- The band record an acknowledgement leaves (R14, R15). -/
def BandRecord.acknowledged (now : Time) (p : PendingBand) (r : BandRecord) : BandRecord :=
  if p.counted then { band := p.band, changes := lastN 3 (r.changes ++ [now]) } else { r with band := 0 }

theorem acknowledgeBand_eq (node : Nat) (p : PendingBand) (s : State) :
    acknowledgeBand node p s =
      if p.counted then
        post .bandChanged node p.band (s.bandRecord node).band
          (modBaysOf node Bay.enterLearning
            { s with bands := s.bands.putD node ((s.bandRecord node).acknowledged s.deckTime p) BandRecord.fresh })
      else
        modBaysOf node Bay.enterLearning
          { s with bands := s.bands.putD node ((s.bandRecord node).acknowledged s.deckTime p) BandRecord.fresh } := by
  unfold acknowledgeBand BandRecord.acknowledged
  split <;> rfl

theorem acknowledgeBand_bands (node : Nat) (p : PendingBand) (s : State) :
    (acknowledgeBand node p s).bands =
      s.bands.putD node ((s.bandRecord node).acknowledged s.deckTime p) BandRecord.fresh := by
  rw [acknowledgeBand_eq]
  split
  · rw [post_eq]
    rfl
  · rfl

theorem acknowledgeBand_bandRecord {p : PendingBand} (hrising : s.bands.rising = true) (a : Nat) :
    (acknowledgeBand node p s).bandRecord a =
      if a = node then (s.bandRecord node).acknowledged s.deckTime p else s.bandRecord a := by
  unfold State.bandRecord
  rw [acknowledgeBand_bands]
  exact Table.findD_putD hrising ..

end

/-- Settles O60: the request by the limit and the first covered band, the reply by the band it carries. -/
theorem bandChangesAreSettled : Obligations.BandChangesAreSettled := by
  unfold Obligations.BandChangesAreSettled
  refine ⟨fun s node => ?request, fun s node sent bytes p hp => ⟨fun h => ?_, fun h => ?_⟩, fun s node p hrising => ?acknowledge⟩
  case request =>
    intro r limited covered emptied pend b1 b2 b3
    have hlimited : 3 ≤ recentChanges s.deckTime (s.bandRecord node) ↔ limited := by rw [recentChanges_eq]
    have hcovered (k : Nat) : bandCovered s node k = true ↔ covered k := bandCovered_iff
    have hemptied {t : State} (h : t.bays = s.bays) : modBaysOf node (fun b => { b with window := [] }) t = emptied t :=
      modBaysOf_emptied _ h
    have hpost (m : Nat) : (post .nodeNoisy node r.band m s).bays = s.bays := (post_within ..).bays_eq (by decide)
    have hnone {k : Nat} (h : ¬ covered k) : bandCovered s node k = false := Bool.eq_false_iff.2 fun hk => h ((hcovered k).1 hk)
    have hroom (h : ¬ limited) : ¬ 3 ≤ recentChanges s.deckTime (s.bandRecord node) := fun hl => h (hlimited.1 hl)
    have hfound {k : Nat} (h : ¬ limited) (hk : nextBand s node r.band = some k) : requestBandChange node s = pend k := by
      rw [requestBandChange_of_next (hroom h) hk]
      exact hemptied rfl
    refine ⟨fun h => ?_, fun h h1 => hfound h ?_, fun h h1 h2 => hfound h ?_, fun h h1 h2 h3 => hfound h ?_,
      fun h h1 h2 h3 => ?_⟩
    · rw [requestBandChange_of_limit (hlimited.2 h)]
      exact hemptied (hpost 1)
    · simp only [nextBand, List.find?_cons, (hcovered b1).2 h1, b1]
    · simp only [nextBand, List.find?_cons, hnone h1, (hcovered b2).2 h2, b1, b2]
    · simp only [nextBand, List.find?_cons, hnone h1, hnone h2, (hcovered b3).2 h3, b1, b2, b3]
    · have hnext : nextBand s node r.band = none := by
        simp only [nextBand, List.find?_cons, hnone h1, hnone h2, hnone h3, List.find?_nil, b1, b2, b3]
      rw [requestBandChange_of_no_next (hroom h) hnext]
      exact hemptied (hpost 0)
  · rw [bandReply_of_pending hp, if_pos h]
  · rw [bandReply_of_pending hp, if_neg h]
  case acknowledge =>
    intro r t u
    refine ⟨?_, fun a ha => ?_, ?_⟩
    · rw [show t.bandRecord node = _ from acknowledgeBand_bandRecord hrising node, if_pos rfl]
      simp only [BandRecord.acknowledged, lastN, List.length_append, List.length_singleton]
      rfl
    · rw [show t.bandRecord a = _ from acknowledgeBand_bandRecord hrising a, if_neg ha]
    · have hu : u = modBaysOf node Bay.enterLearning
          { s with bands := s.bands.putD node ((s.bandRecord node).acknowledged s.deckTime p) BandRecord.fresh } := by
        rw [← acknowledgeBand_bands]
        rfl
      rw [hu]
      exact acknowledgeBand_eq node p s

end Sys2Proof.Machine
end

section
/-! A change of the sensed state of a bay, taken whole (section 1.7). -/

namespace Sys2Proof.Machine
variable {s t u : State}

/-! ### The parts of a change -/

theorem freeCount_of_within (h : Within [] s t) : t.freeCount = s.freeCount := by
  funext row cls
  simp only [State.freeCount, h.bays_eq (by decide)]

theorem rowStage_of_tables (hrows : t.rows = s.rows) (hzones : t.zones = s.zones) (row : Nat) : t.rowStage row = s.rowStage row := by
  unfold State.rowStage State.zoneStage
  rw [hrows, hzones]

theorem offeredCount_of_within (h : Within [] s t) : t.offeredCount = s.offeredCount := by
  funext row cls
  unfold State.offeredCount
  rw [rowStage_of_tables (h.rows_eq (by decide)) (h.zones_eq (by decide)), freeCount_of_within h]

theorem levelOffered_of_within (h : Within [] s t) (level : Nat) : t.levelOffered level = s.levelOffered level := by
  simp only [State.levelOffered, State.overLevel, offeredCount_of_within h, h.rows_eq (by decide)]

theorem levelFree_of_within (h : Within [] s t) (level : Nat) : t.levelFree level = s.levelFree level := by
  simp only [State.levelFree, State.overLevel, freeCount_of_within h, h.rows_eq (by decide)]

section
variable {n cause : Nat} {b : Bay} {new : Sensed}

/-- The bay of a change stamped with its new state (R17). -/
def stampedChange (n : Nat) (b : Bay) (new : Sensed) (s : State) : State :=
  s.modBay n fun _ => { b with sensed := new, changedAt := some s.deckTime }

/-- A change of sensed state up to its census part (R17, R18, R21, R35, R36). -/
def countedChange (n : Nat) (b : Bay) (new : Sensed) (cause : Nat) (s : State) : State :=
  censusOfChange (s.rowLevel b.cfg.row) b.sensed new
    (triggerRow b.cfg.row
      (levelCheck s (s.rowLevel b.cfg.row) (postBayEvents n b b.sensed new cause (stampedChange n b new s))))

theorem senseChange_eq (hfind : s.bays.find n = some b) (new : Sensed) (cause : Nat) :
    senseChange n new cause s = settle s (allocationOfChange n b b.sensed new (countedChange n b new cause s)) := by
  have hstamped : (s.modBay n fun b => { b with sensed := new, changedAt := some s.deckTime }) = stampedChange n b new s :=
    modBay_of_find hfind rfl
  simp only [senseChange, hfind, hstamped]
  rfl

theorem countedChange_within (n : Nat) (b : Bay) (new : Sensed) (cause : Nat) (s : State) :
    Within [.rows, .levels] (stampedChange n b new s) (countedChange n b new cause s) := by
  have hevents := postBayEvents_within n b b.sensed new cause (stampedChange n b new s)
  have hlevel := levelCheck_within s (s.rowLevel b.cfg.row) (postBayEvents n b b.sensed new cause (stampedChange n b new s))
  exact (((hevents.trans hlevel).mono (by decide)).trans ((triggerRow_within ..).mono (by decide))).trans
    ((censusOfChange_within ..).mono (by decide))

theorem countedChange_bays : (countedChange n b new cause s).bays = (stampedChange n b new s).bays :=
  (countedChange_within ..).bays_eq (by decide)

theorem countedChange_guidance : (countedChange n b new cause s).guidance = s.guidance :=
  (countedChange_within ..).guidance_eq (by decide)

theorem countedChange_deckTime : (countedChange n b new cause s).deckTime = s.deckTime := (countedChange_within ..).deckTime

/-- The bay events of a change, by the state it leads to (R18). -/
theorem postBayEvents_eq (n : Nat) (b : Bay) (old new : Sensed) (cause : Nat) (s : State) :
    postBayEvents n b old new cause s =
      if new = .present then
        if b.admin = .closed then
          post .parkedInClosed n b.cfg.row (s.rowLevel b.cfg.row) (post .bayArrival n b.cfg.row (s.rowLevel b.cfg.row) s)
        else post .bayArrival n b.cfg.row (s.rowLevel b.cfg.row) s
      else if new = .unknown then post .bayUnknown n cause b.cfg.node s
      else if old = .present then post .bayDeparture n b.cfg.row (s.rowLevel b.cfg.row) s
      else s := by
  cases new <;> rfl

/-- The comparison of a level's offered total, told in a state that differs from the change in events alone (R21). -/
theorem levelCheck_eq (h : Within [] t u) (level : Nat) :
    levelCheck s level u =
      if 0 < s.levelOffered level ∧ t.levelOffered level = 0 then post .levelFull level (t.levelFree level) 0 u
      else if s.levelOffered level = 0 ∧ 0 < t.levelOffered level then post .levelOpen level (t.levelOffered level) 0 u
      else u := by
  unfold levelCheck levelCheckFrom
  simp only [levelOffered_of_within h, levelFree_of_within h, Bool.and_eq_true, decide_eq_true_eq]

end

/-! ### The hold a change meets -/

section
variable {n cause : Nat} {b : Bay} {h : Hold}

theorem allocationOfChange_of_no_arrival {old new : Sensed} (hnew : new = .unknown) : allocationOfChange n b old new s = s := by
  rw [hnew]
  rfl

theorem takeArrival_of_held {ticket : Nat} {wasVacant : Bool} (hadmin : b.admin = .held ticket)
    (hh : findHold s.guidance.holds ticket = some h) :
    takeArrival n b wasVacant s = allocationPass (endHold h .opened .holdMet n n s) := by
  simp only [takeArrival, hadmin, hh]

theorem takeArrival_of_taken {wasVacant : Bool} (h : b.admin = .closed ∨ ∃ st, b.admin = .claimed st) :
    takeArrival n b wasVacant s = s := by
  rcases h with h | ⟨st, h⟩ <;> simp only [takeArrival, h]

theorem takeArrival_of_no_substitution {wasVacant : Bool} (hadmin : b.admin = .opened)
    (h : (wasVacant && s.guidance.substitution) = false) : takeArrival n b wasVacant s = s := by
  simp [takeArrival, hadmin, h]

theorem takeArrival_of_substitute (hadmin : b.admin = .opened) (hon : s.guidance.substitution = true)
    (hsub : substituteFor s b.cfg.row = some h) :
    takeArrival n b true s = allocationPass (endHold h .opened .holdMet n h.bay s) := by
  simp [takeArrival, hadmin, hon, hsub]

theorem takeArrival_of_no_substitute (hadmin : b.admin = .opened) (hsub : substituteFor s b.cfg.row = none)
    {wasVacant : Bool} : takeArrival n b wasVacant s = s := by
  simp [takeArrival, hadmin, hsub]

theorem meetsFrom_iff {row : Nat} :
    s.meetsFrom row h = true ↔ ∃ x, s.bays.find h.bay = some x ∧ x.cfg.row = row ∧ x.sensed = .vacant := by
  unfold State.meetsFrom
  cases s.bays.find h.bay with
  | none => simp
  | some x => simp

/-- Whether a hold comes before another in the order of R64. -/
def earlier (now : Time) (h x : Hold) : Prop :=
  Time.since now x.issued < Time.since now h.issued ∨
    (Time.since now x.issued = Time.since now h.issued ∧ h.ticket < x.ticket)

theorem earlierHold_of_earlier {now : Time} {x : Hold} (hx : earlier now h x) :
    earlierHold now h x = h ∧ earlierHold now x h = h := by
  unfold earlierHold
  rcases hx with hx | ⟨hsame, hticket⟩
  · exact ⟨by simp [hx], by simp [hx.not_gt, hx.ne]⟩
  · exact ⟨by simp [hsame, hticket.le], by simp [hsame, hticket.not_ge]⟩

theorem earlierHold_self {now : Time} : earlierHold now h h = h := by
  unfold earlierHold
  simp

/-- Of holds of which one comes before every other, that one is the earliest. -/
theorem earliestHold_of_first {now : Time} {l : List Hold} (hmem : h ∈ l) (hfirst : ∀ x ∈ l, x ≠ h → earlier now h x) :
    earliestHold now l = some h := by
  induction l with
  | nil => simp at hmem
  | cons y l ih =>
    obtain ⟨hy, hl⟩ := List.forall_mem_cons.1 hfirst
    rw [earliestHold]
    cases hrest : earliestHold now l with
    | none =>
      cases l with
      | nil => rw [List.mem_singleton.1 hmem]
      | cons z l =>
        rw [earliestHold] at hrest
        split at hrest <;> cases hrest
    | some x =>
      have hx : x ∈ l := earliestHold_mem hrest
      by_cases hin : h ∈ l
      · obtain rfl : x = h := Option.some.inj (hrest.symm.trans (ih hin hl))
        by_cases hyx : y = x
        · simp only [hyx, earlierHold_self]
        · simp only [(earlierHold_of_earlier (hy hyx)).2]
      · obtain rfl : h = y := (List.mem_cons.1 hmem).resolve_right hin
        simp only [(earlierHold_of_earlier (hl x hx fun hxh => hin (hxh ▸ hx))).1]

theorem substituteFor_of_first {row : Nat} (hmem : h ∈ s.guidance.holds) (hmeets : s.meetsFrom row h = true)
    (hfirst : ∀ x ∈ s.guidance.holds, s.meetsFrom row x = true → x ≠ h → earlier s.deckTime h x) :
    substituteFor s row = some h := by
  rw [substituteFor_eq]
  refine earliestHold_of_first (List.mem_filter.2 ⟨hmem, hmeets⟩) fun x hx hne => ?_
  obtain ⟨hxmem, hxmeets⟩ := List.mem_filter.1 hx
  exact hfirst x hxmem hxmeets hne

theorem substituteFor_of_none {row : Nat} (hnone : ∀ x ∈ s.guidance.holds, s.meetsFrom row x = false) :
    substituteFor s row = none := by
  have hempty : s.guidance.holds.filter (s.meetsFrom row) = [] := List.filter_eq_nil_iff.2 fun x hx => by simp [hnone x hx]
  rw [substituteFor_eq, hempty]
  rfl

end

/-! ### What stands of bays and rows through passes -/

/-- The bays apart from their admin states. -/
def State.bayCores (s : State) : Table Bay := s.bays.mapRecords fun _ b => { b with admin := .opened }

theorem bayCores_of_bays (h : t.bays = s.bays) : t.bayCores = s.bayCores := by
  unfold State.bayCores
  rw [h]

theorem setAdmin_bayCores (n : Nat) (a : Admin) (s : State) : (setAdmin n a s).bayCores = s.bayCores := by
  cases hfind : s.bays.find n with
  | none => rw [setAdmin_of_not_find hfind]
  | some b =>
    rw [setAdmin_of_find hfind, bayCores_of_bays ((levelCheck_within ..).bays_eq (by decide))]
    exact Table.mapRecords_modify _ _ n s.bays fun _ _ => rfl

theorem serve_bays (own : Option Nat) (r : Request) (n : Nat) (b : Bay) (s : State) :
    (serve own r n b s).bays = (setAdmin n (.held r.ticket) s).bays := by
  unfold serve
  dsimp only
  rw [(triggerRows_within ..).bays_eq (by decide), (movement_within ..).bays_eq (by decide)]
  split
  · rfl
  · rw [(postTo_within ..).bays_eq (by decide)]
    rfl

theorem passOver_bayCores (own : Option Nat) (l : List Request) (s : State) : (passOver own l s).bayCores = s.bayCores := by
  induction l generalizing s with
  | nil => rfl
  | cons r l ih =>
    rw [passOver]
    split
    · split
      · exact ih s
      · rw [ih, bayCores_of_bays (serve_bays ..), setAdmin_bayCores]
    · rfl

theorem allocationPass_bayCores (s : State) : (allocationPass s).bayCores = s.bayCores := passOver_bayCores ..

/-- A row triggered at a deck time: its request active, its light timer started (R77). -/
def State.lit (row : Nat) (r : Row) (now : Time) (s : State) : Prop :=
  s.deckTime = now ∧ ∃ r', s.rows.find row = some r' ∧ r'.cfg = r.cfg ∧ r'.requested = r.cfg.active ∧
    r'.lightTimer = some (Time.plus now (r.cfg.holdTime * 10))

section
variable {row : Nat} {r : Row} {now : Time}

theorem State.lit.of_rows (h : s.lit row r now) (hrows : t.rows = s.rows) (hdeck : t.deckTime = s.deckTime) :
    t.lit row r now := by
  unfold State.lit
  rw [hrows, hdeck]
  exact h

theorem triggerRow_lit (n : Nat) (h : s.lit row r now) : (triggerRow n s).lit row r now := by
  obtain ⟨hdeck, r', hfind, hcfg, hrequested, htimer⟩ := h
  refine ⟨hdeck, ?_⟩
  by_cases hn : row = n
  · subst hn
    refine ⟨r'.triggered s.deckTime, by simp [triggerRow, hfind], hcfg, ?_, ?_⟩
    · simp [Row.triggered, hcfg]
    · simp [Row.triggered, hcfg, hdeck]
  · exact ⟨r', by simp [triggerRow, hn, hfind], hcfg, hrequested, htimer⟩

theorem triggerRow_lit_self (hfind : s.rows.find row = some r) : (triggerRow row s).lit row r s.deckTime :=
  ⟨rfl, r.triggered s.deckTime, by simp [triggerRow, hfind], rfl, rfl, rfl⟩

theorem setAdmin_lit (n : Nat) (a : Admin) (h : s.lit row r now) : (setAdmin n a s).lit row r now :=
  h.of_rows ((setAdmin_within ..).rows_eq (by decide)) (setAdmin_within ..).deckTime

theorem serve_lit (own : Option Nat) (q : Request) (n : Nat) (b : Bay) (h : s.lit row r now) :
    (serve own q n b s).lit row r now := by
  unfold serve
  refine forEach_keeps (State.lit row r now) triggerRow (fun n _ h => triggerRow_lit n h) _ _ ?_
  refine State.lit.of_rows ?_ ((movement_within ..).rows_eq (by decide)) (movement_within ..).deckTime
  have hheld : ((setAdmin n (.held q.ticket) s).setGuidance
      { (setAdmin n (.held q.ticket) s).guidance with
        holds := insertHold (setAdmin n (.held q.ticket) s).deckTime (holdFor s q n b) (setAdmin n (.held q.ticket) s).guidance.holds
        queue := dropRequest (setAdmin n (.held q.ticket) s).guidance.queue q.ticket }).lit row r now :=
    (setAdmin_lit n (.held q.ticket) h).of_rows rfl rfl
  split
  · exact hheld
  · exact hheld.of_rows ((postTo_within ..).rows_eq (by decide)) (postTo_within ..).deckTime

theorem passOver_lit (own : Option Nat) (l : List Request) (h : s.lit row r now) : (passOver own l s).lit row r now := by
  induction l generalizing s with
  | nil => exact h
  | cons q l ih =>
    rw [passOver]
    split
    · split
      · exact ih h
      · exact ih (serve_lit own q _ _ h)
    · exact h

theorem settle_rowStandings (before s : State) : (settle before s).rowStandings = s.rowStandings := by
  unfold settle
  split
  · dsimp only
    split
    · exact (compute_stands false _).rows
    · rfl
  · rfl

theorem settle_lit (before : State) (h : s.lit row r now) : (settle before s).lit row r now := by
  obtain ⟨hdeck, r', hfind, hcfg, hrequested, htimer⟩ := h
  refine ⟨(settle_within ..).deckTime.trans hdeck, ?_⟩
  have hstands := congrArg (fun t : Table _ => t.find row) (settle_rowStandings before s)
  simp only [State.rowStandings, Table.find_mapRecords, hfind, Option.map_some] at hstands
  obtain ⟨x, hx, hxr⟩ := Option.map_eq_some_iff.1 hstands
  simp only [Row.standing, Prod.mk.injEq] at hxr
  exact ⟨x, hx, hxr.1.trans hcfg, hxr.2.1.trans hrequested, hxr.2.2.trans htimer⟩

end

/-- What a pass, the end of a hold and what comes of them keep of bays and rows, an arrival keeps. -/
theorem takeArrival_bayCores (n : Nat) (b : Bay) (wasVacant : Bool) (s : State) :
    (takeArrival n b wasVacant s).bayCores = s.bayCores := by
  have met (h : Hold) (k : Nat) : (allocationPass (endHold h .opened .holdMet n k s)).bayCores = s.bayCores := by
    rw [allocationPass_bayCores, endHold, bayCores_of_bays ((postTo_within ..).bays_eq (by decide)), setAdmin_bayCores]
    rfl
  unfold takeArrival
  split
  · split
    · exact met ..
    · rfl
  · split
    · split
      · exact met ..
      · rfl
    · rfl
  · rfl
  · rfl

theorem takeArrival_lit {row : Nat} {r : Row} {now : Time} (n : Nat) (b : Bay) (wasVacant : Bool) (h : s.lit row r now) :
    (takeArrival n b wasVacant s).lit row r now := by
  have met (x : Hold) (k : Nat) : (allocationPass (endHold x .opened .holdMet n k s)).lit row r now := by
    refine passOver_lit none _ (State.lit.of_rows ?_ ((postTo_within ..).rows_eq (by decide)) (postTo_within ..).deckTime)
    exact setAdmin_lit _ _ (h.of_rows rfl rfl)
  unfold takeArrival
  split
  · split
    · exact met ..
    · exact h
  · split
    · split
      · exact met ..
      · exact h
    · exact h
  · exact h
  · exact h

theorem allocationOfChange_bayCores (n : Nat) (b : Bay) (old new : Sensed) (s : State) :
    (allocationOfChange n b old new s).bayCores = s.bayCores := by
  cases new with
  | present => exact takeArrival_bayCores ..
  | vacant =>
    unfold allocationOfChange
    dsimp only
    split
    · exact allocationPass_bayCores s
    · rfl
  | unknown => rfl

theorem allocationOfChange_lit {row : Nat} {r : Row} {now : Time} (n : Nat) (b : Bay) (old new : Sensed) (h : s.lit row r now) :
    (allocationOfChange n b old new s).lit row r now := by
  cases new with
  | present => exact takeArrival_lit _ _ _ h
  | vacant =>
    unfold allocationOfChange
    dsimp only
    split
    · exact passOver_lit _ _ h
    · exact h
  | unknown => exact h

section
variable {n cause : Nat} {b : Bay} {new : Sensed}

theorem senseChange_bayCores (hfind : s.bays.find n = some b) :
    (senseChange n new cause s).bayCores = (stampedChange n b new s).bayCores := by
  rw [senseChange_eq hfind, bayCores_of_bays ((settle_within ..).bays_eq (by decide)), allocationOfChange_bayCores,
    bayCores_of_bays countedChange_bays]

/-- A bay whose core is that of another is it up to its admin state. -/
theorem find_of_bayCores (h : t.bayCores = u.bayCores) {m : Nat} {x : Bay} (hfind : u.bays.find m = some x) :
    ∃ admin, t.bays.find m = some { x with admin := admin } := by
  have hcores := congrArg (fun v : Table Bay => v.find m) h
  simp only [State.bayCores, Table.find_mapRecords, hfind, Option.map_some] at hcores
  obtain ⟨y, hy, hyx⟩ := Option.map_eq_some_iff.1 hcores
  refine ⟨y.admin, hy.trans (congrArg some ?_)⟩
  simp only [Bay.mk.injEq] at hyx
  cases y
  cases x
  simp_all

theorem senseChange_lit {r : Row} (hfind : s.bays.find n = some b) (hrow : s.rows.find b.cfg.row = some r) :
    (senseChange n new cause s).lit b.cfg.row r s.deckTime := by
  rw [senseChange_eq hfind]
  refine settle_lit s (allocationOfChange_lit n b b.sensed new ?_)
  have hevents := postBayEvents_within n b b.sensed new cause (stampedChange n b new s)
  have hlevel := levelCheck_within s (s.rowLevel b.cfg.row) (postBayEvents n b b.sensed new cause (stampedChange n b new s))
  have hchecked := hevents.trans hlevel
  have htriggered := triggerRow_lit_self (s := levelCheck s (s.rowLevel b.cfg.row)
    (postBayEvents n b b.sensed new cause (stampedChange n b new s))) (row := b.cfg.row) (r := r)
    (by rw [hchecked.rows_eq (by decide)]; exact hrow)
  rw [hchecked.deckTime] at htriggered
  exact htriggered.of_rows ((censusOfChange_within ..).rows_eq (by decide)) (censusOfChange_within ..).deckTime

end

/-! ### O59 -/

/-- Settles O59: the parts of the change in their order, then the allocation unit's part by the new state and the bay's admin
state; what stands of bays and rows through the passes that may follow. -/
theorem sensedChangesAreWhole : Obligations.SensedChangesAreWhole := by
  unfold Obligations.SensedChangesAreWhole
  refine ⟨fun s n b new cause hfind hne => ?parts, fun s n b new cause hfind hne => ?stands⟩
  case parts =>
    intro old row level stamped told was total compared lit moved counted ended is
    have htold : postBayEvents n b old new cause stamped = told := postBayEvents_eq n b old new cause stamped
    have hevents : Within [] stamped told := htold ▸ postBayEvents_within ..
    have hcompared : levelCheck s level told = compared := levelCheck_eq hevents level
    have hlit : triggerRow row compared = lit := by
      have hdeck : compared.deckTime = s.deckTime := by
        rw [← hcompared, (levelCheck_within ..).deckTime, hevents.deckTime]
        rfl
      unfold triggerRow
      rw [hdeck]
      rfl
    have hcounted : countedChange n b new cause s = counted := by
      unfold countedChange
      rw [show stampedChange n b new s = stamped from rfl, show b.sensed = old from rfl, htold,
        show s.rowLevel b.cfg.row = level from rfl, hcompared, show b.cfg.row = row from rfl, hlit]
      rfl
    have hguidance : counted.guidance = s.guidance := by rw [← hcounted, countedChange_guidance]
    have hdeck : counted.deckTime = s.deckTime := by rw [← hcounted, countedChange_deckTime]
    have hbays : counted.bays = stamped.bays := by rw [← hcounted, countedChange_bays]; rfl
    have hsense : is (allocationOfChange n b old new counted) := by
      rw [← hcounted]
      exact senseChange_eq hfind new cause
    have harrival (hnew : new = .present) :
        allocationOfChange n b old new counted = takeArrival n b (decide (old = .vacant)) counted := by
      unfold allocationOfChange
      rw [hnew]
    have hpresent {u : State} (hnew : new = .present) (hu : takeArrival n b (decide (old = .vacant)) counted = u) : is u := by
      rw [← hu, ← harrival hnew]
      exact hsense
    refine ⟨fun hnew => ?_, fun hnew => ?_, fun hnew hadmin => ?_, fun t h hnew hadmin hh hbay => ?_,
      fun hnew hadmin hoff => ?_, fun hnew hadmin hold hon => ?_⟩
    · exact (allocationOfChange_of_no_arrival (n := n) (b := b) (old := old) (s := counted) hnew) ▸ hsense
    · have hvacant : allocationOfChange n b old new counted = if b.admin = .opened then allocationPass counted else counted := by
        unfold allocationOfChange
        rw [hnew]
      rw [← hvacant]
      exact hsense
    · exact hpresent hnew (takeArrival_of_taken hadmin)
    · refine hpresent hnew ((takeArrival_of_held hadmin (hguidance.symm ▸ hh)).trans ?_)
      rw [show ended h = allocationPass (endHold h .opened .holdMet n h.bay counted) from rfl, hbay]
    · refine hpresent hnew (takeArrival_of_no_substitution hadmin ?_)
      rw [hguidance]
      rcases hoff with hold | hoff
      · simp [hold]
      · simp [hoff]
    · intro meets
      have hon' : counted.guidance.substitution = true := by rw [hguidance, hon]
      have hmeets (h : Hold) : (h ∈ counted.guidance.holds ∧ counted.meetsFrom row h = true) ↔ meets h := by
        rw [hguidance, meetsFrom_iff, hbays]
      refine ⟨fun hnone => hpresent hnew (takeArrival_of_no_substitute hadmin (substituteFor_of_none fun x hx => ?_)),
        fun h hh hfirst => hpresent hnew ?_⟩
      · exact Bool.eq_false_iff.2 fun hm => hnone x ((hmeets x).1 ⟨hx, hm⟩)
      · obtain ⟨hmem, hm⟩ := (hmeets h).2 hh
        rw [decide_eq_true hold]
        refine takeArrival_of_substitute hadmin hon' (substituteFor_of_first hmem hm fun x hx hxm hxh => ?_)
        rw [hdeck]
        exact hfirst x ((hmeets x).1 ⟨hx, hxm⟩) hxh
  case stands =>
    intro t
    have hcores : t.bayCores = (stampedChange n b new s).bayCores := senseChange_bayCores hfind
    have hself : (stampedChange n b new s).bays.find n = some { b with sensed := new, changedAt := some s.deckTime } := by
      simp [stampedChange, hfind]
    have hother {m : Nat} (hm : m ≠ n) : (stampedChange n b new s).bays.find m = s.bays.find m := by
      simp [stampedChange, hm]
    exact ⟨find_of_bayCores hcores hself, fun m x hm hx => find_of_bayCores hcores ((hother hm).trans hx),
      fun r hrow => (senseChange_lit hfind hrow).2⟩

end Sys2Proof.Machine
end

section
/-! Tickets, the orders of queue and hold list, and the choice of a bay (sections 3.2 to 3.5); the ramps (chapter 2). -/

namespace Sys2Proof.Machine
variable {s t u : State}

/-! ### O33 -/

theorem Request.isPriority_iff {r : Request} : r.isPriority = true ↔ r.cls = 1 ∨ r.priority = true := by
  simp [Request.isPriority]

section
variable {r : Request} {priority ordinary : List Request}

theorem enqueue_of_priority (hr : r.isPriority = true) (hp : ∀ x ∈ priority, x.isPriority = true)
    (ho : ∀ x ∈ ordinary, x.isPriority = false) : enqueue r (priority ++ ordinary) = priority ++ r :: ordinary := by
  have htake : ordinary.takeWhile Request.isPriority = [] := by
    cases ordinary with
    | nil => rfl
    | cons x rest => rw [List.takeWhile_cons, ho x (by simp)]; rfl
  have hdrop : ordinary.dropWhile Request.isPriority = ordinary := by
    cases ordinary with
    | nil => rfl
    | cons x rest => rw [List.dropWhile_cons, ho x (by simp)]; rfl
  unfold enqueue
  rw [if_pos hr, List.takeWhile_append_of_pos hp, List.dropWhile_append_of_pos hp, htake, hdrop, List.append_nil]

theorem enqueue_of_ordinary (hr : r.isPriority = false) : enqueue r (priority ++ ordinary) = priority ++ (ordinary ++ [r]) := by
  simp [enqueue, hr]

end

section
variable {now : Time} {h x y : Hold}

theorem holdBefore_iff :
    holdBefore now h x = true ↔
      expiryKey now h.expiry < expiryKey now x.expiry ∨
        (expiryKey now h.expiry = expiryKey now x.expiry ∧ h.ticket < x.ticket) := by
  simp [holdBefore]

theorem holdBefore_trans (hx : holdBefore now h x = true) (hy : holdBefore now x y = true) : holdBefore now h y = true := by
  rw [holdBefore_iff] at hx hy ⊢
  omega

/-- Of two holds of different tickets one stands before the other. -/
theorem holdBefore_total (hne : x.ticket ≠ h.ticket) (hx : holdBefore now h x = false) : holdBefore now x h = true := by
  have hx := Bool.eq_false_iff.1 hx
  rw [Ne, holdBefore_iff] at hx
  rw [holdBefore_iff]
  omega

theorem insertHold_sorted {l : List Hold} (hsorted : l.Pairwise fun x y => holdBefore now x y = true)
    (hnew : ∀ x ∈ l, x.ticket ≠ h.ticket) : (insertHold now h l).Pairwise fun x y => holdBefore now x y = true := by
  induction l with
  | nil => exact List.pairwise_singleton _ _
  | cons x l ih =>
    obtain ⟨hx, hl⟩ := List.pairwise_cons.1 hsorted
    obtain ⟨hxne, hlne⟩ := List.forall_mem_cons.1 hnew
    rw [insertHold]
    split
    next hbefore =>
      refine List.pairwise_cons.2 ⟨fun y hy => ?_, hsorted⟩
      rcases List.mem_cons.1 hy with rfl | hy
      · exact hbefore
      · exact holdBefore_trans hbefore (hx y hy)
    next hbefore =>
      refine List.pairwise_cons.2 ⟨fun y hy => ?_, ih hl hlne⟩
      rcases List.mem_cons.1 ((insertHold_perm now h l).mem_iff.1 hy) with rfl | hy
      · exact holdBefore_total hxne (Bool.eq_false_iff.2 hbefore)
      · exact hx y hy

end

/-- Settles O33: at most 96 tickets are live, the two sections are told apart by priority, and the hold goes to the first place
it stands before. -/
theorem ticketsAndListsKeepOrder : Obligations.TicketsAndListsKeepOrder := by
  unfold Obligations.TicketsAndListsKeepOrder
  refine ⟨fun g hq hh => ?ticket, fun r priority ordinary hp ho => ⟨fun hr => ?_, fun hr => ?_⟩,
    fun now h l hsorted hnew => ⟨insertHold_sorted hsorted hnew, insertHold_perm now h l⟩⟩
  case ticket =>
    have hrange := nextTicket_range g (g.queue.length + g.holds.length) g.lastTicket
    exact ⟨hrange.1, hrange.2, issueTicket_not_live (by omega)⟩
  · exact enqueue_of_priority (Request.isPriority_iff.2 hr) (fun x hx => Request.isPriority_iff.2 (hp x hx))
      fun x hx => Bool.eq_false_iff.2 fun h => ho x hx (Request.isPriority_iff.1 h)
  · exact enqueue_of_ordinary (Bool.eq_false_iff.2 fun h => hr (Request.isPriority_iff.1 h))

/-! ### O34 -/

section
variable {cls : Nat} {x y z : Nat × Bay}

theorem choiceBefore_iff :
    choiceBefore s cls x y = true ↔
      rankOf s.guidance cls x.2.cfg.cls < rankOf s.guidance cls y.2.cfg.cls ∨
        (rankOf s.guidance cls x.2.cfg.cls = rankOf s.guidance cls y.2.cfg.cls ∧
          effectiveCost s x.2 < effectiveCost s y.2) := by
  simp [choiceBefore]

/-- Rank, then effective cost, then number (R55). -/
def State.choiceFirst (s : State) (cls : Nat) (x y : Nat × Bay) : Prop :=
  rankOf s.guidance cls x.2.cfg.cls < rankOf s.guidance cls y.2.cfg.cls ∨
    (rankOf s.guidance cls x.2.cfg.cls = rankOf s.guidance cls y.2.cfg.cls ∧
      (effectiveCost s x.2 < effectiveCost s y.2 ∨ (effectiveCost s x.2 = effectiveCost s y.2 ∧ x.1 < y.1)))

theorem choiceFirst_of_before (h : choiceBefore s cls x y = true) : s.choiceFirst cls x y := by
  rw [choiceBefore_iff] at h
  unfold State.choiceFirst
  omega

theorem choiceFirst_of_not_before (h : choiceBefore s cls y x = false) (hlt : x.1 < y.1) : s.choiceFirst cls x y := by
  have h := Bool.eq_false_iff.1 h
  rw [Ne, choiceBefore_iff] at h
  unfold State.choiceFirst
  omega

theorem choiceFirst_trans (h : s.choiceFirst cls x y) (h' : s.choiceFirst cls y z) : s.choiceFirst cls x z := by
  unfold State.choiceFirst at h h' ⊢
  omega

theorem bestOf_eq_none_iff {l : List (Nat × Bay)} : bestOf s cls l = none ↔ l = [] := by
  cases l with
  | nil => exact ⟨fun _ => rfl, fun _ => rfl⟩
  | cons x l =>
    rw [bestOf]
    split
    · simp
    · split <;> simp

/-- The best of a list in rising number stands before every other in it. -/
theorem bestOf_first {l : List (Nat × Bay)} (hsorted : l.Pairwise fun x y => x.1 < y.1) (hbest : bestOf s cls l = some x)
    (hy : y ∈ l) (hne : y ≠ x) : s.choiceFirst cls x y := by
  induction l generalizing x y with
  | nil => cases hy
  | cons z l ih =>
    obtain ⟨hz, hl⟩ := List.pairwise_cons.1 hsorted
    rw [bestOf] at hbest
    split at hbest
    next hrest =>
      cases hbest
      rw [bestOf_eq_none_iff.1 hrest] at hy
      exact absurd (List.mem_singleton.1 hy) hne
    next w hw =>
      have hwmem := bestOf_mem hw
      split at hbest
      next hbefore =>
        cases hbest
        rcases List.mem_cons.1 hy with rfl | hy
        · exact choiceFirst_of_before hbefore
        · exact ih hl hw hy hne
      next hbefore =>
        cases hbest
        have hfirst : s.choiceFirst cls z w := choiceFirst_of_not_before (Bool.eq_false_iff.2 hbefore) (hz w hwmem)
        have hyl : y ∈ l := (List.mem_cons.1 hy).resolve_left hne
        by_cases hyw : y = w
        · exact hyw ▸ hfirst
        · exact choiceFirst_trans hfirst (ih hl hw hyl hyw)

theorem chooseBay_eq_none_iff : chooseBay s cls = none ↔ ∀ p ∈ s.bays, isCandidate s cls p.2 = false := by
  unfold chooseBay
  rw [bestOf_eq_none_iff, List.filter_eq_nil_iff]
  simp only [Bool.not_eq_true]

end

/-- Settles O34: the first of the candidates in rising number. -/
theorem passChoosesFirstCandidate : Obligations.PassChoosesFirstCandidate := by
  unfold Obligations.PassChoosesFirstCandidate
  intro s cls hrising candidate cost
  have hmem (m : Nat) (c : Bay) : s.bays.find m = some c ↔ (m, c) ∈ s.bays := Table.find_eq_some_iff _ hrising m c
  have hcandidate (c : Bay) : isCandidate s cls c = true ↔ candidate c := isCandidate_iff
  refine ⟨fun n b hchoose => ?_, ?_⟩
  · obtain ⟨hb, hc⟩ := chooseBay_mem hchoose
    refine ⟨(hmem n b).2 hb, (hcandidate b).1 hc, fun m c hfind hcc hne => ?_⟩
    have hsorted : (s.bays.filter fun p => isCandidate s cls p.2).Pairwise fun x y => x.1 < y.1 :=
      (List.pairwise_map.1 ((Table.rising_iff_pairwise _).1 hrising)).filter _
    exact bestOf_first hsorted hchoose (List.mem_filter.2 ⟨(hmem m c).1 hfind, (hcandidate c).2 hcc⟩) hne
  · rw [chooseBay_eq_none_iff]
    refine ⟨fun h m c hfind hcc => ?_, fun h p hp => ?_⟩
    · simpa [(hcandidate c).2 hcc] using h _ ((hmem m c).1 hfind)
    · exact Bool.eq_false_iff.2 fun hcc => h p.1 p.2 ((hmem _ _).2 hp) ((hcandidate p.2).1 hcc)

/-! ### O36 -/

theorem Pins.withRamp_ramp (p : Pins) (pair k : Fin 16) (side x : LoopSide) (high : Bool) :
    (p.withRamp pair side high).ramp k x = if k = pair ∧ x = side then high else p.ramp k x := by
  have hbit : (1#16 <<< (pair : Nat)).getLsbD k = decide (k = pair) := by
    simp only [BitVec.getLsbD_shiftLeft, BitVec.getLsbD_one, Fin.ext_iff, k.isLt, decide_true, Bool.true_and]
    rw [Bool.eq_iff_iff]
    simp
    omega
  have hset (w : BitVec 16) :
      (if high then w ||| (1#16 <<< (pair : Nat)) else w &&& ~~~(1#16 <<< (pair : Nat))).getLsbD k =
        if k = pair then high else w.getLsbD k := by
    cases high with
    | true =>
      simp only [if_true, BitVec.getLsbD_or, hbit]
      split <;> simp_all
    | false =>
      simp only [Bool.false_eq_true, if_false, BitVec.getLsbD_and, BitVec.getLsbD_not, hbit, k.isLt]
      split <;> simp_all
  cases side with
  | a =>
    cases x with
    | a => simpa [Pins.withRamp, Pins.ramp] using hset p.rampA
    | b => simp [Pins.withRamp, Pins.ramp]
  | b =>
    cases x with
    | a => simp [Pins.withRamp, Pins.ramp]
    | b => simpa [Pins.withRamp, Pins.ramp] using hset p.rampB

theorem Pins.withRamp_fanFault (p : Pins) (pair : Nat) (side : LoopSide) (high : Bool) :
    (p.withRamp pair side high).fanFault = p.fanFault := by cases side <;> rfl

theorem Pins.withRamp_shed (p : Pins) (pair : Nat) (side : LoopSide) (high : Bool) :
    (p.withRamp pair side high).shed = p.shed := by cases side <;> rfl

section
variable {pair : Nat} {p : RampPair} {a b : Bool}

/-- The steps from one phase to another, round the four of them (R29). -/
def phaseSteps (old new : Nat) : Nat := (new + 4 - old) % 4

/-- The position and the spoiled flag after a change of phase (R29, R30). -/
def RampPair.movedBy (p : RampPair) (steps : Nat) : Int :=
  if steps = 1 then min 8 (max (-8) (p.position + 1)) else if steps = 3 then max (-8) (min 8 (p.position - 1)) else p.position

/-- A pair with new filtered levels, position and spoiled flag, its settle timer ended. -/
def State.pairAt (s : State) (pair : Nat) (p : RampPair) (a b : Bool) (position : Int) (spoiled : Bool) : State :=
  s.modPair pair fun _ => { p with filteredA := a, filteredB := b, position := position, spoiled := spoiled, settle := none }

theorem phaseSteps_ne_zero {a' b' : Bool} (h : ¬ (a = a' ∧ b = b')) :
    phaseSteps (phaseOf a b) (phaseOf a' b') = 1 ∨ phaseSteps (phaseOf a b) (phaseOf a' b') = 2 ∨
      phaseSteps (phaseOf a b) (phaseOf a' b') = 3 := by
  revert a b a' b'
  decide

/-- The pair's part of a change of its filtered levels, before any return to idle (R29, R30). -/
def State.pairStepped (s : State) (pair : Nat) (p : RampPair) (a b : Bool) : State :=
  if phaseSteps p.phase (phaseOf a b) = 2 then
    post .rampGlitch pair p.phase (phaseOf a b) (s.pairAt pair p a b p.position true)
  else s.pairAt pair p a b (p.movedBy (phaseSteps p.phase (phaseOf a b))) p.spoiled

/-- The settle timer's expiry of a pair whose raw levels are not the filtered ones (R28). -/
theorem settleExpire_of_change {e : Time} (hfind : s.pairs.find pair = some p) (htimer : p.settle = some e)
    (hdue : Time.reached s.deckTime e = true) (ha : s.pins.rampA.getLsbD pair = a) (hb : s.pins.rampB.getLsbD pair = b)
    (hne : ¬ (p.filteredA = a ∧ p.filteredB = b)) :
    settleExpire pair s =
      if phaseOf a b = 0 then returnToIdle pair (s.pairStepped pair p a b) else s.pairStepped pair p a b := by
  have hfind' : (s.modPair pair fun p => { p with settle := none }).pairs.find pair = some { p with settle := none } := by
    simp [hfind]
  have hexpire : settleExpire pair s = decoderStep pair a b (s.modPair pair fun p => { p with settle := none }) := by
    simp only [settleExpire, hfind, htimer, timerDue_some, hdue, if_true, ha, hb, if_neg hne]
  have hat (q : Int) (spoil : Bool) :
      ((s.modPair pair fun p => { p with settle := none }).modPair pair fun p =>
        { p with filteredA := a, filteredB := b, position := q, spoiled := spoil }) = s.pairAt pair p a b q spoil := by
    rw [State.modPair_modPair]
    exact modPair_of_find hfind rfl
  rw [hexpire]
  simp only [decoderStep, hfind', hat]
  have hphase : ({ p with settle := none } : RampPair).phase = p.phase := rfl
  have hsteps : phaseSteps p.phase (phaseOf a b) = 1 ∨ phaseSteps p.phase (phaseOf a b) = 2 ∨
      phaseSteps p.phase (phaseOf a b) = 3 := phaseSteps_ne_zero hne
  unfold State.pairStepped RampPair.movedBy
  unfold phaseSteps at hsteps ⊢
  rw [hphase]
  rcases hsteps with h | h | h
  · have hclamp : stepPosition p.position 1 = min 8 (max (-8) (p.position + 1)) := by unfold stepPosition; omega
    simp only [h, hclamp]
    rfl
  · simp only [h]
    rfl
  · have hclamp : stepPosition p.position (-1) = max (-8) (min 8 (p.position - 1)) := rfl
    simp only [h, hclamp]
    rfl

/-- The return of a pair to phase 0, by the passage it ends (R31, R40). -/
theorem returnToIdle_of_find (hfind : s.pairs.find pair = some p) :
    returnToIdle pair s =
      forEach p.cfg.boundedLevels censusCheck
        (if p.spoiled = false ∧ p.position = 4 then
          crossing pair p.cfg true (s.modPair pair fun p => { p with position := 0, spoiled := false })
        else if p.spoiled = false ∧ p.position = -4 then
          crossing pair p.cfg false (s.modPair pair fun p => { p with position := 0, spoiled := false })
        else s.modPair pair fun p => { p with position := 0, spoiled := false }) := by
  simp only [returnToIdle, hfind]
  cases p.spoiled <;> simp

/-- The filtered levels of a pair, position and flag after its step, and the pair then made idle. -/
theorem pairAt_find (hfind : s.pairs.find pair = some p) (q : Int) (spoil : Bool) :
    (s.pairAt pair p a b q spoil).pairs.find pair =
      some { p with filteredA := a, filteredB := b, position := q, spoiled := spoil, settle := none } := by
  simp [State.pairAt, hfind]

theorem pairAt_idle (q : Int) (spoil : Bool) :
    ((s.pairAt pair p a b q spoil).modPair pair fun p => { p with position := 0, spoiled := false }) =
      s.pairAt pair p a b 0 false := by
  unfold State.pairAt
  rw [State.modPair_modPair]

theorem post_pairs {kind : EventKind} {subject x y : Nat} : (post kind subject x y s).pairs = s.pairs := by rw [post_eq]

/-- Whether a pair is spoiled after a change of phase (R30). -/
def RampPair.spoiltBy (p : RampPair) (steps : Nat) : Bool := p.spoiled || decide (steps = 2)

/-- A pair made idle after a change of phase to phase 0 (R30, R31). -/
def State.pairIdle (s : State) (pair : Nat) (p : RampPair) (a b : Bool) : State :=
  if phaseSteps p.phase (phaseOf a b) = 2 then
    post .rampGlitch pair p.phase (phaseOf a b) (s.pairAt pair p a b 0 false)
  else s.pairAt pair p a b 0 false

/-- A pair that has stepped to phase 0, returned to idle (R31). -/
theorem returnToIdle_of_stepped {steps : Nat} (hfind : s.pairs.find pair = some p)
    (hsteps : phaseSteps p.phase (phaseOf a b) = steps) :
    returnToIdle pair (s.pairStepped pair p a b) =
      forEach p.cfg.boundedLevels censusCheck
        (if p.spoiltBy steps = false ∧ p.movedBy steps = 4 then crossing pair p.cfg true (s.pairIdle pair p a b)
        else if p.spoiltBy steps = false ∧ p.movedBy steps = -4 then crossing pair p.cfg false (s.pairIdle pair p a b)
        else s.pairIdle pair p a b) := by
  unfold RampPair.spoiltBy
  by_cases htwo : steps = 2
  · have hstepped : s.pairStepped pair p a b =
        post .rampGlitch pair p.phase (phaseOf a b) (s.pairAt pair p a b p.position true) := if_pos (hsteps.trans htwo)
    have hmod : (s.pairStepped pair p a b).modPair pair (fun p => { p with position := 0, spoiled := false }) =
        s.pairIdle pair p a b := by
      rw [hstepped, post_modPair, pairAt_idle, State.pairIdle, if_pos (hsteps.trans htwo)]
    rw [returnToIdle_of_find (s := s.pairStepped pair p a b) (by rw [hstepped, post_pairs]; exact pairAt_find hfind ..), hmod]
    simp [htwo]
  · have hnot : ¬ phaseSteps p.phase (phaseOf a b) = 2 := fun h => htwo (hsteps.symm.trans h)
    have hstepped : s.pairStepped pair p a b = s.pairAt pair p a b (p.movedBy steps) p.spoiled := by
      rw [State.pairStepped, if_neg hnot, hsteps]
    have hmod : (s.pairStepped pair p a b).modPair pair (fun p => { p with position := 0, spoiled := false }) =
        s.pairIdle pair p a b := by
      rw [hstepped, pairAt_idle, State.pairIdle, if_neg hnot]
    rw [returnToIdle_of_find (s := s.pairStepped pair p a b) (by rw [hstepped]; exact pairAt_find hfind ..), hmod]
    simp [htwo]

theorem settleExpire_of_same {e : Time} (hfind : s.pairs.find pair = some p) (htimer : p.settle = some e)
    (hdue : Time.reached s.deckTime e = true) (ha : p.filteredA = s.pins.rampA.getLsbD pair)
    (hb : p.filteredB = s.pins.rampB.getLsbD pair) :
    settleExpire pair s = s.modPair pair fun _ => { p with settle := none } := by
  simp only [settleExpire, hfind, htimer, timerDue_some, hdue, if_true, ← ha, ← hb, and_self]
  exact modPair_of_find hfind rfl

end

/-- Settles O36: the input by its level, the settle timer by the change of phase it takes. -/
theorem rampInputsAreDecoded : Obligations.RampInputsAreDecoded := by
  unfold Obligations.RampInputsAreDecoded
  refine ⟨fun s pair high hrun => ⟨fun ha => ?_, fun hb => ?_, fun side hne => ?input⟩,
    fun s pair p e hrun hfind htimer hdue => ?expiry⟩
  · exact congrArg Host.Outcome.next (if_pos ha)
  · exact congrArg Host.Outcome.next (if_pos hb)
  case input =>
    refine ⟨s.pins.withRamp pair side high, ?_, Pins.withRamp_fanFault .., Pins.withRamp_shed ..,
      fun k x => Pins.withRamp_ramp s.pins pair k side x high⟩
    refine congrArg Host.Outcome.next ((if_neg hne).trans ?_)
    rw [whenRunning_of_running (s := { s with pins := s.pins.withRamp pair side high }) hrun]
    rfl
  case expiry =>
    intro a b old new at' moved spoilt idle
    have hexec : exec (.settleTimerExpiry pair) s = .next (settle s (settleExpire pair s)) :=
      exec_running (f := fun s => settle s (settleExpire pair s)) hrun rfl
    have hchange (h : ¬ (p.filteredA = a ∧ p.filteredB = b)) := settleExpire_of_change hfind htimer hdue rfl rfl h
    have hphase (h : p.filteredA = a ∧ p.filteredB = b) : old = new := by simp only [old, new, h.1, h.2]
    have hsame : phaseSteps new new = 0 := by simp [phaseSteps, new]
    refine ⟨fun ha hb => ?_, fun hnew hsteps => ?_, fun hnew hsteps => ?_, fun hnew hold => ?_⟩
    · rw [hexec, settleExpire_of_same hfind htimer hdue ha hb]
    · have hne : ¬ (p.filteredA = a ∧ p.filteredB = b) := fun h => by
        rw [hphase h] at hsteps
        exact absurd (hsame.symm.trans hsteps) (by decide)
      have hstepped : s.pairStepped pair p a b = post .rampGlitch pair old new (at' p.position true) := if_pos hsteps
      rw [hexec, hchange hne, if_neg hnew, hstepped]
    · have hne : ¬ (p.filteredA = a ∧ p.filteredB = b) := fun h => by
        rw [hphase h] at hsteps
        rcases hsteps with h | h
        · exact absurd (hsame.symm.trans h) (by decide)
        · exact absurd (hsame.symm.trans h) (by decide)
      have htwo : ¬ phaseSteps p.phase (phaseOf a b) = 2 := fun h => by
        rcases hsteps with h' | h'
        · exact absurd (h.symm.trans h') (by decide)
        · exact absurd (h.symm.trans h') (by decide)
      have hstepped : s.pairStepped pair p a b = at' moved p.spoiled := if_neg htwo
      rw [hexec, hchange hne, if_neg hnew, hstepped]
    · have hne : ¬ (p.filteredA = a ∧ p.filteredB = b) := fun h => hold ((hphase h).trans hnew)
      rw [hexec, hchange hne, if_pos hnew, returnToIdle_of_stepped hfind rfl]
      rfl

/-! ### O37 -/

section
variable {pair n : Nat} {down up : Bool}

/-- A count moved by one, kept within 0 to 2047 (R34). -/
def movedCount (count : Nat) (up : Bool) : Nat :=
  if up then (if count < 2047 then count + 1 else count) else count - 1

theorem countCrossing_levels (pair level : Nat) (up : Bool) (s : State) :
    (countCrossing pair level up s).levels = s.levels.modify level fun l => { l with count := movedCount l.count up } := by
  cases hfind : s.levels.find level with
  | none =>
    rw [Table.modify_of_not_find _ _ _ hfind]
    simp [countCrossing, hfind]
  | some l =>
    have hstands (h : movedCount l.count up = l.count) :
        s.levels = s.levels.modify level fun l => { l with count := movedCount l.count up } :=
      (Table.modify_of_find_fixed (f := fun l => { l with count := movedCount l.count up }) hfind (by rw [h])).symm
    have hmoves {f : Level → Level} (h : f l = { l with count := movedCount l.count up }) :
        (s.modLevel level f).levels = s.levels.modify level fun l => { l with count := movedCount l.count up } :=
      Table.modify_of_find _ _ _ _ _ hfind h
    have hpost : (post .censusLimit level l.count pair s).levels = s.levels := (post_within ..).levels_eq (by decide)
    simp only [countCrossing, hfind]
    cases up with
    | true =>
      by_cases hlt : l.count < 2047
      · simp only [hlt, if_true]
        exact hmoves (by simp [movedCount, hlt])
      · simp only [hlt, if_true, if_false, hpost]
        exact hstands (by simp [movedCount, hlt])
    | false =>
      by_cases hpos : 0 < l.count
      · simp only [hpos, if_true, Bool.false_eq_true, if_false]
        exact hmoves (by simp [movedCount])
      · simp only [hpos, Bool.false_eq_true, if_false, hpost]
        exact hstands (by simp [movedCount]; omega)

/-- A level bounded by a pair after a counted crossing, its drift state apart: whether it is entered (R32, R34, R36). -/
def Level.crossed (up : Bool) (l : Level) : Level :=
  { l with count := movedCount l.count up, ring := addMovement l.ring }

theorem Level.crossed_eq (up : Bool) :
    Level.crossed up = fun l => { l with count := movedCount l.count up, ring := addMovement l.ring } := rfl

/-- A level that stands but for its drift state. -/
def Level.agrees (l l' : Level) : Prop :=
  l'.cfg = l.cfg ∧ l'.count = l.count ∧ l'.ring = l.ring ∧ l'.pending = l.pending

theorem Level.agrees_driftUpdated (now : Time) (present : Nat) (l : Level) : l.agrees (l.driftUpdated now present) := by
  unfold Level.driftUpdated
  split
  · split <;> exact ⟨rfl, rfl, rfl, rfl⟩
  · exact ⟨rfl, rfl, rfl, rfl⟩

theorem Level.agrees.trans {l l' l'' : Level} (h : l.agrees l') (h' : l'.agrees l'') : l.agrees l'' :=
  ⟨h'.1.trans h.1, h'.2.1.trans h.2.1, h'.2.2.1.trans h.2.2.1, h'.2.2.2.trans h.2.2.2⟩

theorem forEach_updateDrift_find {l : Level} (ks : List Nat) (hfind : s.levels.find n = some l) :
    ∃ l', (forEach ks updateDrift s).levels.find n = some l' ∧ l.agrees l' := by
  induction ks generalizing s l with
  | nil => exact ⟨l, hfind, rfl, rfl, rfl, rfl⟩
  | cons k ks ih =>
    by_cases hk : n = k
    · subst hk
      obtain ⟨l', hl', hagrees⟩ := ih (s := updateDrift n s) (l := l.driftUpdated s.deckTime (s.presentCount n))
        (by simp [updateDrift, hfind])
      exact ⟨l', hl', (l.agrees_driftUpdated _ _).trans hagrees⟩
    · exact ih (s := updateDrift k s) (by simp [updateDrift, hk, hfind])

theorem forEach_updateDrift_find_other {ks : List Nat} (hn : n ∉ ks) :
    (forEach ks updateDrift s).levels.find n = s.levels.find n := by
  induction ks generalizing s with
  | nil => rfl
  | cons k ks ih =>
    rw [List.mem_cons, not_or] at hn
    rw [forEach_cons, ih hn.2]
    simp [updateDrift, hn.1]

variable {c : PairCfg}

/-- The state of a crossing once its counts and movements are taken (R32 steps 1 and 2). -/
def countedCrossing (pair : Nat) (c : PairCfg) (down : Bool) (s : State) : State :=
  forEach c.boundedLevels movement (moveCounts pair c down s)

theorem crossing_eq (pair : Nat) (c : PairCfg) (down : Bool) (s : State) :
    crossing pair c down s =
      forEach c.boundedLevels updateDrift
        (triggerRows (rootRowsOf (countedCrossing pair c down s) pair) (countedCrossing pair c down s)) := rfl

theorem movement_levels (k : Nat) (s : State) :
    (movement k s).levels = s.levels.modify k fun l => { l with ring := addMovement l.ring } := rfl

/-- The levels once counts and movements are taken: the side entered, the side left, and the others (R34, R36). -/
theorem countedCrossing_find (hne : c.upper ≠ .level c.lower) (n : Nat) :
    (countedCrossing pair c down s).levels.find n =
      if n = c.lower then (s.levels.find n).map (Level.crossed down)
      else if c.upper = .level n then (s.levels.find n).map (Level.crossed (!down))
      else s.levels.find n := by
  cases hupper : c.upper with
  | street =>
    simp only [countedCrossing, moveCounts, PairCfg.boundedLevels, hupper, forEach_cons, forEach_nil, movement_levels,
      countCrossing_levels, Table.find_modify]
    by_cases hn : n = c.lower
    · simp [hn, Level.crossed_eq, Function.comp_def]
    · simp [hn]
  | level u =>
    have hu : u ≠ c.lower := fun h => hne (by rw [hupper, h])
    simp only [countedCrossing, moveCounts, PairCfg.boundedLevels, hupper, forEach_cons, forEach_nil, movement_levels,
      countCrossing_levels, Table.find_modify]
    by_cases hn : n = c.lower
    · have hnu : ¬ n = u := fun h => hu (h.symm.trans hn)
      subst hn
      simp [hnu, Level.crossed_eq, Function.comp_def]
    · by_cases hnu : n = u
      · subst hnu
        simp [hn, Level.crossed_eq, Function.comp_def]
      · simp [hn, hnu, Ne.symm hnu]

theorem Row.triggered_triggered (now : Time) (r : Row) : (r.triggered now).triggered now = r.triggered now := rfl

/-- The rows after a trigger of some of them (R77). -/
theorem triggerRows_find (rows : List Nat) (s : State) (k : Nat) :
    (triggerRows rows s).rows.find k = (s.rows.find k).map fun r => if k ∈ rows then r.triggered s.deckTime else r := by
  unfold triggerRows
  induction rows generalizing s with
  | nil => simp
  | cons n rows ih =>
    rw [forEach_cons, ih, (triggerRow_within ..).deckTime]
    by_cases hk : k = n
    · subst hk
      simp [triggerRow, Function.comp_def, Row.triggered_triggered]
    · simp [triggerRow, hk]

theorem countedCrossing_within (pair : Nat) (c : PairCfg) (down : Bool) (s : State) :
    Within [.levels] s (countedCrossing pair c down s) := by
  refine Within.trans ?_ (forEach_within _ movement_within _ _)
  unfold moveCounts
  refine Within.trans ?_ (countCrossing_within ..)
  split
  · exact .refl _ s
  · exact countCrossing_within ..

theorem mem_rootRowsOf (hrising : s.rows.rising = true) {k : Nat} {r : Row} (hfind : s.rows.find k = some r) :
    k ∈ rootRowsOf s pair ↔ r.cfg.parent = .pair pair := by
  simp only [rootRowsOf, List.mem_map, List.mem_filter, decide_eq_true_eq]
  constructor
  · rintro ⟨q, ⟨hq, hparent⟩, rfl⟩
    have hq' : s.rows.find q.1 = some q.2 := (Table.find_eq_some_iff _ hrising _ _).2 hq
    obtain rfl : q.2 = r := Option.some.inj (hq'.symm.trans hfind)
    exact hparent
  · exact fun hparent => ⟨(k, r), ⟨Table.find_mem _ _ _ hfind, hparent⟩, rfl⟩

/-- The rows after a crossing: the root rows of its pair are triggered (R32 step 3). -/
theorem crossing_rows_find (hrising : s.rows.rising = true) (k : Nat) :
    (crossing pair c down s).rows.find k =
      (s.rows.find k).map fun r => if r.cfg.parent = .pair pair then r.triggered s.deckTime else r := by
  have hcounted := countedCrossing_within pair c down s
  rw [crossing_eq, (forEach_within (parts := [.levels]) _ updateDrift_within _ _).rows_eq (by decide), triggerRows_find,
    hcounted.rows_eq (by decide), hcounted.deckTime]
  have hroots : rootRowsOf (countedCrossing pair c down s) pair = rootRowsOf s pair := by
    unfold rootRowsOf
    rw [hcounted.rows_eq (by decide)]
  rw [hroots]
  cases hfind : s.rows.find k with
  | none => rfl
  | some r => simp only [Option.map_some, mem_rootRowsOf hrising hfind]

theorem crossing_level_find {l : Level} (hfind : (countedCrossing pair c down s).levels.find n = some l) :
    ∃ l', (crossing pair c down s).levels.find n = some l' ∧ l.agrees l' := by
  rw [crossing_eq]
  refine forEach_updateDrift_find _ ?_
  rw [(triggerRows_within ..).levels_eq (by decide)]
  exact hfind

theorem crossing_level_find_other (hn : n ∉ c.boundedLevels) :
    (crossing pair c down s).levels.find n = (countedCrossing pair c down s).levels.find n := by
  rw [crossing_eq, forEach_updateDrift_find_other hn, (triggerRows_within ..).levels_eq (by decide)]

theorem mem_boundedLevels : n ∈ c.boundedLevels ↔ c.upper = .level n ∨ n = c.lower := by
  unfold PairCfg.boundedLevels
  cases c.upper with
  | street => simp
  | level u => simp [eq_comm]

end

/-- Settles O37: each level by its side of the pair, the rows by their parent. -/
theorem crossingMovesCounts : Obligations.CrossingMovesCounts := by
  unfold Obligations.CrossingMovesCounts
  intro s pair c down hne t moved
  have hcounted := countedCrossing_find (s := s) (pair := pair) (down := down) hne
  have hwithin := crossing_within pair c down s
  refine ⟨fun l hfind => ?lower, fun u l hupper hfind => ?upper, fun n hlower hupper => ?other,
    fun hrising n => crossing_rows_find hrising n, ?device, hwithin.ports, hwithin.control_eq (by decide),
    hwithin.bays_eq (by decide), hwithin.bands_eq (by decide), hwithin.pairs_eq (by decide), hwithin.heads_eq (by decide),
    hwithin.zones_eq (by decide), hwithin.fans_eq (by decide), hwithin.guidance_eq (by decide),
    hwithin.supply_eq (by decide), hwithin.loop_eq (by decide)⟩
  case lower =>
    obtain ⟨l', hl', hcfg, hcount, hring, hpending⟩ := crossing_level_find (n := c.lower) (l := l.crossed down)
      (by rw [hcounted, if_pos rfl, hfind]; rfl)
    exact ⟨l', hl', hcfg, hcount, hring, hpending⟩
  case upper =>
    have hu : ¬ u = c.lower := fun h => hne (h ▸ hupper)
    obtain ⟨l', hl', hcfg, hcount, hring, hpending⟩ := crossing_level_find (n := u) (l := l.crossed (!down))
      (by rw [hcounted, if_neg hu, if_pos hupper, hfind]; rfl)
    exact ⟨l', hl', hcfg, hcount, hring, hpending⟩
  case other =>
    refine (crossing_level_find_other fun h => ?_).trans (by rw [hcounted, if_neg hlower, if_neg hupper])
    rcases mem_boundedLevels.1 h with h | h
    · exact hupper h
    · exact hlower h
  case device =>
    exact ⟨hwithin.pending, hwithin.deckTime, hwithin.pins, hwithin.censusMinute_eq (by decide),
      hwithin.censusStart_eq (by decide), hwithin.fade_eq (by decide), hwithin.stageTable_eq (by decide),
      hwithin.airMinute_eq (by decide)⟩

end Sys2Proof.Machine
end

section
/-! Serving a request, and the scan of the allocation pass (section 3.4). -/

namespace Sys2Proof.Machine
variable {s t u : State}

/-! ### Serving a request -/

section
variable {n : Nat} {b : Bay} {own : Option Nat} {r : Request}

theorem setAdmin_bays (n : Nat) (a : Admin) (s : State) :
    (setAdmin n a s).bays = s.bays.modify n fun b => { b with admin := a } := by
  cases hfind : s.bays.find n with
  | none => rw [setAdmin_of_not_find hfind, Table.modify_of_not_find _ _ _ hfind]
  | some b =>
    rw [setAdmin_of_find hfind, (levelCheck_within ..).bays_eq (by decide)]
    rfl

theorem triggerRows_ports (rows : List Nat) (s : State) : (triggerRows rows s).ports = s.ports :=
  forEach_same State.ports triggerRow (fun _ _ => rfl) rows s

/-- The state of a request served, before the movement and the triggers (R56 steps 1 to 4). -/
def servedTold (own : Option Nat) (r : Request) (n : Nat) (b : Bay) (s : State) : State :=
  let s1 := setAdmin n (.held r.ticket) s
  let s2 := s1.setGuidance
    { s1.guidance with
      holds := insertHold s1.deckTime (holdFor s r n b) s1.guidance.holds
      queue := dropRequest s1.guidance.queue r.ticket }
  if own = some r.ticket then s2
  else postTo r.station .bayAssigned r.ticket n ((holdFor s r n b).level * 256 + b.cfg.row) s2

theorem serve_eq_told (own : Option Nat) (r : Request) (n : Nat) (b : Bay) (s : State) :
    serve own r n b s = triggerRows (s.path b.cfg.row) (movement (s.rowLevel b.cfg.row) (servedTold own r n b s)) := rfl

theorem servedTold_within (own : Option Nat) (r : Request) (n : Nat) (b : Bay) (s : State) :
    Within [.bays, .guidance] s (servedTold own r n b s) := by
  have hheld : Within [.bays, .guidance] s
      ((setAdmin n (.held r.ticket) s).setGuidance
        { (setAdmin n (.held r.ticket) s).guidance with
          holds := insertHold (setAdmin n (.held r.ticket) s).deckTime (holdFor s r n b) (setAdmin n (.held r.ticket) s).guidance.holds
          queue := dropRequest (setAdmin n (.held r.ticket) s).guidance.queue r.ticket }) :=
    ((setAdmin_within ..).mono (by decide)).trans ((setGuidance_within ..).mono (by decide))
  unfold servedTold
  dsimp only
  split
  · exact hheld
  · exact hheld.trans ((postTo_within ..).mono (by simp))

/-- The events of serving, told in the state of the hand-over to the bay table (R56). -/
theorem servedTold_ports (own : Option Nat) (r : Request) (n : Nat) (b : Bay) (s : State) :
    (servedTold own r n b s).ports =
      (if own = some r.ticket then setAdmin n (.held r.ticket) s
        else postTo r.station .bayAssigned r.ticket n (s.rowLevel b.cfg.row * 256 + b.cfg.row)
          (setAdmin n (.held r.ticket) s)).ports := by
  unfold servedTold
  dsimp only
  split
  · rfl
  · rw [postTo_eq, postTo_eq]
    rfl

theorem serve_ports (own : Option Nat) (r : Request) (n : Nat) (b : Bay) (s : State) :
    (serve own r n b s).ports = (servedTold own r n b s).ports := by
  rw [serve_eq_told, triggerRows_ports]
  rfl

theorem serve_levels_find (k : Nat) :
    (serve own r n b s).levels.find k =
      (s.levels.find k).map fun l =>
        if k = s.rowLevel b.cfg.row then { l with ring := addMovement l.ring } else l := by
  rw [serve_eq_told, (triggerRows_within ..).levels_eq (by decide), movement_levels,
    (servedTold_within ..).levels_eq (by decide), Table.find_modify]
  split <;> simp

theorem serve_rows_find (k : Nat) :
    (serve own r n b s).rows.find k =
      (s.rows.find k).map fun x => if k ∈ s.path b.cfg.row then x.triggered s.deckTime else x := by
  rw [serve_eq_told, triggerRows_find, (movement_within ..).rows_eq (by decide),
    (servedTold_within ..).rows_eq (by decide), (movement_within ..).deckTime, (servedTold_within ..).deckTime]

/-! ### The candidates after serving -/

theorem serve_rowStage (row : Nat) : (serve own r n b s).rowStage row = s.rowStage row := by
  unfold State.rowStage State.zoneStage
  rw [serve_rows_find, (serve_within ..).zones_eq (by decide)]
  cases s.rows.find row with
  | none => rfl
  | some x =>
    dsimp only [Option.map_some]
    split
    · rfl
    · rfl

/-- A bay that is HELD is no candidate, and serving leaves every other bay as good a candidate as it was. -/
theorem serve_isCandidate (hmem : (n, b) ∈ s.bays) (cls : Nat) (x : Bay) :
    isCandidate (serve own r n b s) cls x = isCandidate s cls x := by
  unfold isCandidate
  rw [serve_rowStage, serve_guidance own hmem]
  rfl

theorem mem_modify {α : Type} {t : Table α} {k : Nat} {f : α → α} {p : Nat × α} (h : p ∈ t.modify k f) :
    p ∈ t ∨ ∃ x, (k, x) ∈ t ∧ p = (k, f x) := by
  induction t with
  | nil => cases h
  | cons q t ih =>
    obtain ⟨i, y⟩ := q
    by_cases hi : i = k
    · subst hi
      rw [Table.modify, if_pos rfl] at h
      rcases List.mem_cons.1 h with rfl | h
      · exact .inr ⟨y, by simp, rfl⟩
      · exact .inl (List.mem_cons_of_mem _ h)
    · rw [Table.modify, if_neg hi] at h
      rcases List.mem_cons.1 h with rfl | h
      · exact .inl (by simp)
      · rcases ih h with h | ⟨x, hx, hp⟩
        · exact .inl (List.mem_cons_of_mem _ h)
        · exact .inr ⟨x, List.mem_cons_of_mem _ hx, hp⟩

/-- No class gains a candidate by the serving of a request. -/
theorem serve_chooseBay_none (hmem : (n, b) ∈ s.bays) {cls : Nat} (h : chooseBay s cls = none) :
    chooseBay (serve own r n b s) cls = none := by
  rw [chooseBay_eq_none_iff] at h ⊢
  intro p hp
  rw [serve_isCandidate hmem]
  rw [serve_bays, setAdmin_bays] at hp
  rcases mem_modify hp with hp | ⟨x, -, rfl⟩
  · exact h p hp
  · simp [isCandidate, Bay.isFree]

end

/-! ### The scan -/

section
variable {own : Option Nat} {r : Request} {l : List Request}

theorem passOver_of_full (h : 64 ≤ s.guidance.holds.length) : passOver own (r :: l) s = s := by
  rw [passOver, if_neg h.not_gt]

theorem passOver_of_none (hroom : s.guidance.holds.length < 64) (hchoose : chooseBay s r.cls = none) :
    passOver own (r :: l) s = passOver own l s := by
  simp only [passOver, if_pos hroom, hchoose]

theorem passOver_of_served {n : Nat} {b : Bay} (hroom : s.guidance.holds.length < 64)
    (hchoose : chooseBay s r.cls = some (n, b)) : passOver own (r :: l) s = passOver own l (serve own r n b s) := by
  simp only [passOver, if_pos hroom, hchoose]

/-- What serving one request does, with one step of the scan, holds of the scan. -/
theorem passOver_induction {P : List Request → State → Prop} (nil : ∀ s, P [] s)
    (full : ∀ r l s, 64 ≤ s.guidance.holds.length → P (r :: l) s)
    (none : ∀ r l s, s.guidance.holds.length < 64 → chooseBay s r.cls = none → P l s → P (r :: l) s)
    (served : ∀ r l s n b, s.guidance.holds.length < 64 → chooseBay s r.cls = some (n, b) → P l (serve own r n b s) →
      P (r :: l) s) (l : List Request) (s : State) : P l s := by
  induction l generalizing s with
  | nil => exact nil s
  | cons r l ih =>
    rcases Nat.lt_or_ge s.guidance.holds.length 64 with hroom | hfull
    · cases hchoose : chooseBay s r.cls with
      | none => exact none r l s hroom hchoose (ih s)
      | some p => exact served r l s p.1 p.2 hroom hchoose (ih _)
    · exact full r l s hfull

theorem passOver_queue_sublist (own : Option Nat) (l : List Request) (s : State) :
    (passOver own l s).guidance.queue.Sublist s.guidance.queue := by
  refine passOver_induction (own := own) (P := fun l s => (passOver own l s).guidance.queue.Sublist s.guidance.queue)
    (fun s => .refl _) (fun r l s hfull => ?_) (fun r l s hroom hchoose ih => ?_) (fun r l s n b hroom hchoose ih => ?_) l s
  · rw [passOver_of_full hfull]
  · rwa [passOver_of_none hroom hchoose]
  · rw [passOver_of_served hroom hchoose]
    rw [serve_guidance own (chooseBay_mem hchoose).1] at ih
    exact ih.trans List.filter_sublist

theorem mem_passOver_holds {h : Hold} (own : Option Nat) (l : List Request) (s : State) (hh : h ∈ s.guidance.holds) :
    h ∈ (passOver own l s).guidance.holds := by
  revert hh
  refine passOver_induction (own := own) (P := fun l s => h ∈ s.guidance.holds → h ∈ (passOver own l s).guidance.holds)
    (fun s => id) (fun r l s hfull hh => ?_) (fun r l s hroom hchoose ih hh => ?_) (fun r l s n b hroom hchoose ih hh => ?_) l s
  · rwa [passOver_of_full hfull]
  · rw [passOver_of_none hroom hchoose]
    exact ih hh
  · rw [passOver_of_served hroom hchoose]
    refine ih ?_
    rw [serve_guidance own (chooseBay_mem hchoose).1]
    exact (insertHold_perm ..).mem_iff.2 (List.mem_cons_of_mem _ hh)

/-- A request of the queue is still in it after a pass, or a hold has its ticket. -/
theorem passOver_request {q : Request} (own : Option Nat) (l : List Request) (s : State) (hq : q ∈ s.guidance.queue) :
    q ∈ (passOver own l s).guidance.queue ∨ ∃ h ∈ (passOver own l s).guidance.holds, h.ticket = q.ticket := by
  revert hq
  refine passOver_induction (own := own)
    (P := fun l s => q ∈ s.guidance.queue →
      q ∈ (passOver own l s).guidance.queue ∨ ∃ h ∈ (passOver own l s).guidance.holds, h.ticket = q.ticket)
    (fun s => .inl) (fun r l s hfull hq => ?_) (fun r l s hroom hchoose ih hq => ?_) (fun r l s n b hroom hchoose ih hq => ?_) l s
  · rw [passOver_of_full hfull]
    exact .inl hq
  · rw [passOver_of_none hroom hchoose]
    exact ih hq
  · rw [passOver_of_served hroom hchoose]
    have hguidance := serve_guidance (s := s) (r := r) own (chooseBay_mem hchoose).1
    by_cases hticket : q.ticket = r.ticket
    · refine .inr ⟨holdFor s r n b, mem_passOver_holds own l _ ?_, hticket.symm⟩
      rw [hguidance]
      exact (insertHold_perm ..).mem_iff.2 List.mem_cons_self
    · refine ih ?_
      rw [hguidance]
      exact List.mem_filter.2 ⟨hq, decide_eq_true hticket⟩

/-- Where the hold list is not full at the end of a pass, no request left that was taken has a candidate (R55). -/
theorem passOver_exhausts (own : Option Nat) (l : List Request) (s : State)
    (htaken : ∀ q ∈ s.guidance.queue, q ∈ l ∨ chooseBay s q.cls = none) :
    64 ≤ (passOver own l s).guidance.holds.length ∨
      ∀ q ∈ (passOver own l s).guidance.queue, chooseBay (passOver own l s) q.cls = none := by
  revert htaken
  refine passOver_induction (own := own)
    (P := fun l s => (∀ q ∈ s.guidance.queue, q ∈ l ∨ chooseBay s q.cls = none) →
      64 ≤ (passOver own l s).guidance.holds.length ∨
        ∀ q ∈ (passOver own l s).guidance.queue, chooseBay (passOver own l s) q.cls = none)
    (fun s htaken => .inr fun q hq => (htaken q hq).resolve_left List.not_mem_nil) (fun r l s hfull _ => ?_)
    (fun r l s hroom hchoose ih htaken => ?_) (fun r l s n b hroom hchoose ih htaken => ?_) l s
  · rw [passOver_of_full hfull]
    exact .inl hfull
  · rw [passOver_of_none hroom hchoose]
    refine ih fun q hq => ?_
    rcases htaken q hq with hmem | hnone
    · rcases List.mem_cons.1 hmem with heq | hmem
      · exact .inr (by rw [heq]; exact hchoose)
      · exact .inl hmem
    · exact .inr hnone
  · rw [passOver_of_served hroom hchoose]
    have hmem := (chooseBay_mem hchoose).1
    refine ih fun q hq => ?_
    rw [serve_guidance own hmem] at hq
    obtain ⟨hq, hticket⟩ := List.mem_filter.1 hq
    rcases htaken q hq with hin | hnone
    · refine .inl ((List.mem_cons.1 hin).resolve_left fun heq => ?_)
      exact of_decide_eq_true hticket (congrArg Request.ticket heq)
    · exact .inr (serve_chooseBay_none hmem hnone)

end

/-- Settles O35: serving part by part, and the consequences by induction over the requests the pass takes. -/
theorem passServesRequests : Obligations.PassServesRequests := by
  unfold Obligations.PassServesRequests
  refine ⟨fun own r n b s hfind hrising => ?serving, fun own r rest s => ⟨passOver_of_full, passOver_of_none,
    fun n b => passOver_of_served⟩, fun own s => ?scan⟩
  case serving =>
    intro level hold held told t
    have hwithin : Within [.bays, .levels, .rows, .guidance] s t := serve_within own r n b s
    have hbays : t.bays = s.bays.modify n fun b => { b with admin := .held r.ticket } := by
      rw [show t.bays = _ from serve_bays .., setAdmin_bays]
    refine ⟨?_, fun m hm => ?_, serve_guidance own (Table.find_mem _ _ _ hfind), ?_, fun k => serve_levels_find k,
      fun k => serve_rows_find k, ?_, hwithin.ports, hwithin.control_eq (by decide), hwithin.bands_eq (by decide),
      hwithin.jitter_eq (by decide), hwithin.pairs_eq (by decide), hwithin.heads_eq (by decide),
      hwithin.zones_eq (by decide), hwithin.fans_eq (by decide), hwithin.supply_eq (by decide), hwithin.loop_eq (by decide)⟩
    · rw [hbays]
      simp [hfind]
    · rw [hbays]
      simp [hm]
    · exact (serve_ports ..).trans (servedTold_ports ..)
    · exact ⟨hwithin.pending, hwithin.deckTime, hwithin.pins, hwithin.censusMinute_eq (by decide),
        hwithin.censusStart_eq (by decide), hwithin.fade_eq (by decide), hwithin.stageTable_eq (by decide),
        hwithin.airMinute_eq (by decide)⟩
  case scan =>
    exact ⟨rfl, passOver_queue_sublist own _ s, fun r hr => passOver_request own _ s hr,
      fun h hh => mem_passOver_holds own _ s hh, passOver_exhausts own _ s fun q hq => .inl hq⟩

end Sys2Proof.Machine
end

section
/-! The steps of a port transaction (sections 9.1 and 9.2). -/

namespace Sys2Proof.Machine
variable {s : State} {st : Station} {e : Entry}

/-! ### Taking waiting entries -/

theorem takeReady_of_empty (hempty : (s.port st).commands = []) : takeReady st s = s := by
  simp [takeReady, hempty, takeEntries]

/-- The oldest entry without room for its response holds back all that wait (R175). -/
theorem takeReady_of_no_room {e : Entry} {rest : List Entry} (hfront : (s.port st).commands = e :: rest)
    (hroom : hasRoom (s.port st) e = false) : takeReady st s = s := by
  simp [takeReady, hfront, takeEntries, hroom]

/-- An entry that arrives, with the oldest of those that then wait without room, waits behind them (R175). -/
theorem arrive_of_no_room (hcount : (s.port st).commands.length < 2)
    (hroom : hasRoom (s.port st) ((s.port st).commands.headD e) = false) :
    arrive st e s = s.setPort st { s.port st with commands := (s.port st).commands ++ [e] } := by
  simp only [arrive, if_pos hcount]
  cases hwaiting : (s.port st).commands with
  | nil =>
    rw [hwaiting] at hroom
    exact takeReady_of_no_room (e := e) (rest := []) (by simp) (by simpa [hasRoom] using hroom)
  | cons old rest =>
    rw [hwaiting] at hroom
    exact takeReady_of_no_room (e := old) (rest := rest ++ [e]) (by simp) (by simpa [hasRoom] using hroom)

theorem receive_of_running (hrun : s.control.resetHeld = false) : receive st e s = arrive st e s := by
  simp [receive, hrun]

/-! ### The steps of a transaction -/

theorem selFalls_of_idle (hrun : s.control.resetHeld = false) (hidle : (s.port st).transaction = .idle) :
    selFalls st s = s.setPort st { s.port st with transaction := .active (s.port st).responses.head? false } := by
  simp [selFalls, hidle, hrun]

theorem frameBytes_of_open {out : Option Response} {bytes : List Byte} (hopen : (s.port st).transaction = .active out false)
    (hframe : decodeFrame bytes = some e) :
    frameBytes st bytes s = arrive st e (s.setPort st { s.port st with transaction := .active out true }) := by
  simp [frameBytes, hopen, hframe]

theorem frameBytes_of_closed {out : Option Response} {bytes : List Byte}
    (hclosed : (s.port st).transaction = .active out true) : frameBytes st bytes s = s := by
  simp [frameBytes, hclosed]

theorem readOutDone_of_active {r : Response} {past : Bool} (hactive : (s.port st).transaction = .active (some r) past) :
    readOutDone st s =
      takeReady st
        (s.setPort st
          { s.port st with responses := (s.port st).responses.drop 1, transaction := .active none past }) := by
  simp [readOutDone, hactive]

theorem selRises_of_no_entry {out : Option Response} {past : Bool} {bytes : List Byte}
    (hactive : (s.port st).transaction = .active out past) (hnone : past = true ∨ entryAtRise bytes = none) :
    selRises st bytes s = s.setPort st { s.port st with transaction := .idle } := by
  cases past with
  | true => simp [selRises, hactive]
  | false => simp [selRises, hactive, hnone.resolve_left Bool.false_ne_true]

theorem selRises_of_entry {out : Option Response} {bytes : List Byte}
    (hactive : (s.port st).transaction = .active out false) (hentry : entryAtRise bytes = some e) :
    selRises st bytes s = arrive st e (s.setPort st { s.port st with transaction := .idle }) := by
  simp [selRises, hactive, hentry]

theorem exec_selRise {bytes : List Byte} (hrun : s.control.resetHeld = false) :
    exec (.selRise st bytes) s = .next (selRises st bytes s) := by
  show execSelRise st bytes s = _
  simp [execSelRise, hrun]

/-- Settles O12: each step of a transaction by its own law. -/
theorem portTransactionSteps : Obligations.PortTransactionSteps := by
  unfold Obligations.PortTransactionSteps
  intro s st hrun
  refine ⟨fun i e hi => ⟨fun hcount hroom => ?waits, fun hfull => ?discarded⟩, fun hidle => ?falls,
    fun out bytes e hopen hframe => ?frame, fun out bytes hclosed => ?past, fun r past hactive hempty => ?readOut,
    fun r past e hactive hwaiting hcount hslots => ?readOutTakes, fun out past bytes hactive hnone => ?rises,
    fun out len hactive hne hbad => ?badLength⟩
  case waits => rw [exec_entry i st e s hi, receive_of_running hrun, arrive_of_no_room hcount hroom]
  case discarded => rw [exec_entry i st e s hi, receive_full st e s hrun hfull]
  case falls => exact (congrArg Host.Outcome.next (selFalls_of_idle hrun hidle) :)
  case frame =>
    rw [exec_running (f := frameBytes st bytes) hrun rfl, frameBytes_of_open hopen hframe, receive_of_running (by simp [hrun])]
  case past => rw [exec_running (f := frameBytes st bytes) hrun rfl, frameBytes_of_closed hclosed]
  case readOut =>
    rw [exec_running (f := readOutDone st) hrun rfl, readOutDone_of_active hactive, takeReady_of_empty (by simp [hempty])]
  case readOutTakes =>
    rw [exec_running (f := readOutDone st) hrun rfl, readOutDone_of_active hactive, receive_of_running (by simp [hrun])]
    simp [arrive, hwaiting]
  case rises => rw [exec_selRise hrun, selRises_of_no_entry hactive hnone]
  case badLength =>
    have hentry : entryAtRise [len] = some (.badFrame 0) := by
      have hpos : ¬ len.toNat = 0 := fun h => hne (BitVec.eq_of_toNat_eq h)
      simp [entryAtRise, hpos, hbad]
    rw [exec_selRise hrun, receive_of_running (by simp [hrun]), selRises_of_entry hactive hentry]

end Sys2Proof.Machine
end

section
/-! The words of the records (section 9.6). -/

namespace Sys2Proof.Machine

/-! ### The fields that are read out in a form of their own -/

theorem timerLeft_eq (now : Time) (v : Option Time) :
    timerLeft now v = (v.map fun e => if Time.since now e < 2147483648 then 0 else (e - now).toNat).getD 0 := by
  cases v with
  | none => rfl
  | some e => simp only [timerLeft, Time.left, Time.reached, decide_eq_true_eq, Option.map_some, Option.getD_some]

theorem jumpyCount_eq (w : List Bool) : jumpyCount w = (w.filter id).length := List.countP_eq_length_filter

theorem Level.movements_eq (l : Level) : l.movements = l.ring.sum := by
  simp [Level.movements, sumOf_eq_sum]

/-! ### The read-out of a record that stands -/

section
variable {s : State} {n : Nat}

theorem readOut_bay {b : Bay} (h : s.bays.find n = some b) : readOut s 0 n = some (bayWords n b) := by simp [readOut, h]
theorem readOut_pair {p : RampPair} (h : s.pairs.find n = some p) : readOut s 2 n = some (pairWords s n p) := by
  simp [readOut, h]
theorem readOut_level {l : Level} (h : s.levels.find n = some l) : readOut s 3 n = some (levelWords s n l) := by
  simp [readOut, h]
theorem readOut_row {r : Row} (h : s.rows.find n = some r) : readOut s 4 n = some (rowWords s n r) := by simp [readOut, h]
theorem readOut_head {x : Head} (h : s.heads.find n = some x) : readOut s 5 n = some (headWords n x) := by simp [readOut, h]
theorem readOut_zone {z : Zone} (h : s.zones.find n = some z) : readOut s 6 n = some (zoneWords s n z) := by
  simp [readOut, h]
theorem readOut_traffic {l : Level} (h : s.levels.find n = some l) : readOut s 7 n = some (trafficWords s n l) := by
  simp [readOut, h]
theorem readOut_fan {f : Fan} (h : s.fans.find n = some f) : readOut s 9 n = some (fanWords s n f) := by simp [readOut, h]

end

/-- Settles O16: each kind of record, its fields one by one. -/
theorem recordsReadOut : Obligations.RecordsReadOut := by
  unfold Obligations.RecordsReadOut
  intro s n flag long short time left
  have hleft : ∀ v, timerLeft s.deckTime v = left v := timerLeft_eq s.deckTime
  refine ⟨fun b hb => ?bay, ?band, fun p hp => ?pair, fun l hl => ?level, fun r hr => ?row, fun x hx => ?head,
    fun z hz => ?zone, fun l hl => ?traffic, rfl, fun f hf => ?fan, ?health, ?loop, rfl, fun h => ?noBay, fun h => ?noPair,
    fun h => ?noLevel, fun h => ?noRow, fun h => ?noHead, fun h => ?noZone, fun h => ?noFan, ?codes⟩
  case bay =>
    rw [readOut_bay hb, bayWords, jumpyCount_eq]
    cases b.admin <;> rfl
  case band => rfl
  case pair =>
    rw [readOut_pair hp, pairWords]
    cases p.cfg.upper <;> rfl
  case level =>
    rw [readOut_level hl, levelWords, hleft, Level.movements_eq, Level.driftExpiry]
    cases l.drift <;> rfl
  case row =>
    rw [readOut_row hr, rowWords, hleft]
    cases r.cfg.parent <;> rfl
  case head =>
    rw [readOut_head hx]
    rfl
  case zone =>
    rw [readOut_zone hz, zoneWords, hleft, hleft]
    rfl
  case traffic =>
    rw [readOut_traffic hl]
    rfl
  case fan =>
    rw [readOut_fan hf, fanWords, hleft]
    rfl
  case health => rfl
  case loop => rfl
  case noBay => simp [readOut, h]
  case noPair => simp [readOut, h]
  case noLevel => exact ⟨by simp [readOut, h], by simp [readOut, h]⟩
  case noRow => simp [readOut, h]
  case noHead => simp [readOut, h]
  case noZone => simp [readOut, h]
  case noFan => simp [readOut, h]
  case codes => exact ⟨rfl, rfl, rfl, rfl, rfl, rfl, rfl, rfl, rfl, rfl, rfl⟩

end Sys2Proof.Machine
end

section
/-! The loads as READ_LOADS answers them (section 7.5). -/

namespace Sys2Proof.Machine
variable (s : State)

theorem fanEntry_eq_joinFields (n : Nat) (f : Fan) :
    fanEntry s n f =
      joinFields [2, 2, 2, 2, 2, 4, 2, 4, 4, 2]
        [0, n, f.cls, f.floor, f.request, f.cfg.power f.floor, f.granted, f.cfg.power f.granted, f.cfg.power f.commanded,
          heldPosition s (.fan n)] := by
  simp [fanEntry, Fan.floorDraw, Fan.draw]

theorem rowEntry_eq_joinFields (n : Nat) (r : Row) :
    rowEntry s n r =
      joinFields [2, 2, 2, 2, 2, 4, 2, 4, 4, 2]
        [1, n, 2, r.cfg.base, r.requested, s.rowPower r r.cfg.base, r.granted, s.rowPower r r.granted,
          s.rowPower r r.commanded, heldPosition s (.row n)] := by
  simp [rowEntry, State.rowFloorDraw, State.rowDraw]

theorem loadsHeader_eq_joinFields :
    loadsHeader s =
      joinFields [4, 4, 2, 4, 4, 4, 4, 4, 2, 2, 2, 2, 2, 2, 2]
        [s.supply.normal, s.supply.shed, bit s.pins.shed, if s.pins.shed then s.supply.shed else s.supply.normal,
          s.supply.floorTotal, s.totalDraw, s.grantedSum, s.supply.budget, s.supply.k1, s.supply.k2, s.supply.k3,
          bit s.supply.short, if s.inRun then 0 else 1, (heldList s).length, (loadEntries s).length] := by
  have hmode : bit (!s.inRun) = if s.inRun then 0 else 1 := by cases s.inRun <;> rfl
  simp [loadsHeader, State.allowance, hmode]

/-- One frame up to four entries, two from five (R158). -/
theorem doReadLoads_of_le {page : Nat} (h : (pageOf (loadEntries s) page).length ≤ 4) :
    doReadLoads page s =
      done s (loadsHeader s ++ pageCounts (loadEntries s) page ++ (pageOf (loadEntries s) page).flatten) := by
  have hfew : ¬ 5 ≤ (pageOf (loadEntries s) page).length := by omega
  simp [doReadLoads, hfew]

theorem doReadLoads_of_gt {page : Nat} (h : 5 ≤ (pageOf (loadEntries s) page).length) :
    doReadLoads page s =
      (s, [(.done, loadsHeader s ++ pageCounts (loadEntries s) page ++ ((pageOf (loadEntries s) page).take 4).flatten),
        (.done, ((pageOf (loadEntries s) page).drop 4).flatten)]) := by
  simp [doReadLoads, h]

/-- Settles O17: the entry is taken where both slots are free, and waits where one is. -/
theorem readLoadsAnswers : Obligations.ReadLoadsAnswers := by
  unfold Obligations.ReadLoadsAnswers
  intro s st tag page hrun hempty fans loads entries head
  have hfans : s.fanLoads = fans := by
    simp only [fans, State.fanLoads, Fan.isLoad, Bool.decide_and]
  have hloads : loadEntries s = loads := by
    simp only [loadEntries, loads, hfans, fanEntry_eq_joinFields, rowEntry_eq_joinFields]
  have hentries : pageOf (loadEntries s) page = entries := by rw [hloads]; rfl
  have hhead : loadsHeader s ++ pageCounts (loadEntries s) page = head := by
    rw [loadsHeader_eq_joinFields, pageCounts_eq_joinFields, hentries, hloads]
  have htaken : (s.port st).responses = [] →
      exec (.readLoads st tag page) s =
        .next (placeResponses st (.command tag (.readLoads page)) (s.port st).overrun (doReadLoads page s)) := fun hfree =>
    congrArg Host.Outcome.next (receive_taken st (.command tag (.readLoads page)) s hrun hempty (by simp [hfree, slotsNeeded, entryEcho, Command.code]))
  refine ⟨fun hfree hfew => ?one, fun hfree hmany => ?two, fun hused => ?waits⟩
  case one =>
    rw [htaken hfree, doReadLoads_of_le s (hentries ▸ hfew), hhead, hentries]
    rfl
  case two =>
    rw [htaken hfree, doReadLoads_of_gt s (hentries ▸ hmany), hhead, hentries]
    simp [placeResponses, responsesOf, hfree, entryEcho, Command.code]
  case waits =>
    exact congrArg Host.Outcome.next (receive_waits st _ s hrun hempty (by simp [hused, slotsNeeded, entryEcho, Command.code]))

end Sys2Proof.Machine
end

section
/-! ENTER_CONFIG (section 10.2). -/

namespace Sys2Proof.Machine
variable {s t : State}

/-! ### The bays of the holds that lapse -/

theorem lapseHold_bays (h : Hold) (after : Admin) (reason : Nat) (s : State) :
    (lapseHold h after reason s).bays = s.bays.modify h.bay fun b => { b with admin := after } := by
  unfold lapseHold endHold
  rw [(postTo_within ..).bays_eq (by decide), setAdmin_bays]
  rfl

theorem forEach_lapseHold_bays (l : List Hold) (after : Admin) (reason : Nat) (s : State) (n : Nat) :
    (forEach l (lapseHold · after reason) s).bays.find n =
      (s.bays.find n).map fun b => if l.any (fun h => decide (h.bay = n)) then { b with admin := after } else b := by
  induction l generalizing s with
  | nil => simp
  | cons h rest ih =>
    rw [forEach_cons, ih, lapseHold_bays, Table.find_modify]
    cases hfind : s.bays.find n with
    | none => simp
    | some b => by_cases hbay : h.bay = n <;> simp [hbay, Ne.symm]

theorem forEach_lapseRequest_bays (l : List Request) (s : State) : (forEach l lapseRequest s).bays = s.bays :=
  forEach_same State.bays lapseRequest (fun _ _ => (postTo_within ..).bays_eq (by decide)) l s

theorem emptyGuidance_bays (s : State) (n : Nat) :
    (emptyGuidance s).bays.find n =
      (s.bays.find n).map fun b =>
        if s.guidance.holds.any (fun h => decide (h.bay = n)) then { b with admin := .opened } else b := by
  rw [emptyGuidance_eq, forEach_lapseHold_bays, forEach_lapseRequest_guidance, forEach_lapseRequest_bays]

theorem Fan.toHeld_eq (f : Fan) :
    f.toHeld =
      if f.state = .faulted ∨ f.state = .isolated then f
      else { f with state := .held, rampHeld := false, timer := none } := by
  unfold Fan.toHeld
  by_cases hout : f.state = .faulted ∨ f.state = .isolated
  · rw [if_pos hout, if_neg fun h => not_or.2 (Fan.isLoad_iff.1 h) hout]
  · rw [if_neg hout, if_pos (Fan.isLoad_iff.2 (not_or.1 hout))]

theorem doEnterConfig_of_run (hrun : s.inRun = true) (hwriting : s.writing = false) :
    doEnterConfig s =
      done (enterConfig s) (joinFields [1, 1] [s.guidance.queue.length, s.guidance.holds.length]) := by
  simp [doEnterConfig, hrun, hwriting]

/-! ### The part frozen -/

/-- The walk stopping, the rows FROZEN and the loads HELD (R170, R91, R142). -/
def frozen (s : State) : State := holdFans (freezeRows (stopWalk s))

theorem frozen_within (s : State) : Within [.rows, .fans, .fieldLoop] s (frozen s) :=
  (((setLoop_within ..).mono (by decide)).trans ((freezeRows_within _).mono (by decide))).trans
    ((holdFans_within _).mono (by decide))

theorem frozen_rows (s : State) : (frozen s).rows = s.rows.mapRecords fun _ r => { r with step := .frozen } := rfl

theorem frozen_fans (s : State) :
    (frozen s).fans = s.fans.mapRecords fun _ f =>
      if f.state = .faulted ∨ f.state = .isolated then f
      else { f with state := .held, rampHeld := false, timer := none } := by
  show s.fans.mapRecords (fun _ f => f.toHeld) = _
  simp only [Fan.toHeld_eq]

theorem frozen_loop (s : State) :
    (frozen s).loop = { s.loop with state := if s.loop.current = none then .stopped else .draining } := by
  show { s.loop with state := if s.loop.current.isSome then LoopState.draining else .stopped } = _
  cases s.loop.current <;> rfl

theorem enterConfig_eq_frozen (s : State) :
    enterConfig s = post .modeChanged 0 1 0 (frozen (emptyGuidance (configEntered s))) := rfl

/-- Settles O18: the parts that ENTER_CONFIG writes, each by what writes it. -/
theorem enterConfigFreezesPart : Obligations.EnterConfigFreezesPart := by
  unfold Obligations.EnterConfigFreezesPart
  intro s tag hready hrun hwriting
  have hemptied := emptyGuidance_within (configEntered s)
  have hfrozen := frozen_within (emptyGuidance (configEntered s))
  have hwithin : Within [.control, .bays, .rows, .fans, .guidance, .fieldLoop] s
      (frozen (emptyGuidance (configEntered s))) :=
    ((setControl_within ..).mono (by decide)).trans ((hemptied.mono (by decide)).trans (hfrozen.mono (by decide)))
  have heffect : execute .supervisor .enterConfig s =
      (post .modeChanged 0 1 0 (frozen (emptyGuidance (configEntered s))),
        [(.done, joinFields [1, 1] [s.guidance.queue.length, s.guidance.holds.length])]) :=
    doEnterConfig_of_run hrun hwriting
  refine ⟨frozen (emptyGuidance (configEntered s)), exec_answers rfl hready rfl (by decide) rfl rfl heffect, ?control,
    ?guidance, fun n => ?bays, ?rows, ?fans, ?walk, ?device, hwithin.ports, hwithin.bands_eq (by decide),
    hwithin.jitter_eq (by decide), hwithin.pairs_eq (by decide), hwithin.levels_eq (by decide),
    hwithin.heads_eq (by decide), hwithin.zones_eq (by decide), hwithin.supply_eq (by decide)⟩
  case control =>
    rw [hfrozen.control_eq (by decide), hemptied.control_eq (by decide)]
    rfl
  case guidance =>
    rw [hfrozen.guidance_eq (by decide), emptyGuidance_guidance]
    rfl
  case bays =>
    rw [hfrozen.bays_eq (by decide), emptyGuidance_bays]
    rfl
  case rows =>
    rw [frozen_rows, hemptied.rows_eq (by decide)]
    rfl
  case fans =>
    rw [frozen_fans, hemptied.fans_eq (by decide)]
    rfl
  case walk =>
    rw [frozen_loop, hemptied.loop_eq (by decide)]
    rfl
  case device =>
    exact ⟨hwithin.pending, hwithin.deckTime, hwithin.pins, hwithin.censusMinute_eq (by decide),
      hwithin.censusStart_eq (by decide), hwithin.fade_eq (by decide), hwithin.stageTable_eq (by decide),
      hwithin.airMinute_eq (by decide)⟩

end Sys2Proof.Machine
end

section
/-! The ten checks of COMMIT (section 10.4). -/

namespace Sys2Proof.Machine

/-! ### A check of the records of one table -/

theorem firstFailing_eq_none_iff {α : Type} {check kind : Nat} {t : Table α} {bad : Nat → α → Bool} :
    firstFailing check kind t bad = none ↔ ∀ p ∈ t, bad p.1 p.2 = false := by
  simp [firstFailing]

/-- No two records of a table share a property where none shares it with an earlier one (checks 7 and 8). -/
theorem sharesEarlier_eq_false_iff {α : Type} {t : Table α} {same : α → α → Bool} (hrising : t.rising = true)
    (hsymm : ∀ x y, same x y = same y x) :
    (∀ p ∈ t, sharesEarlier t same p.1 p.2 = false) ↔ ∀ p ∈ t, ∀ q ∈ t, same p.2 q.2 = true → p = q := by
  simp only [sharesEarlier, List.any_eq_false, Bool.and_eq_true, decide_eq_true_eq, not_and]
  constructor
  · intro h p hp q hq hsame
    rcases Nat.lt_trichotomy p.1 q.1 with hlt | heq | hgt
    · exact absurd hsame (h q hq p hp hlt)
    · have hfind := (Table.find_eq_some_iff t hrising p.1 p.2).2 hp
      rw [heq, (Table.find_eq_some_iff t hrising q.1 q.2).2 hq] at hfind
      exact Prod.ext heq (Option.some.inj hfind).symm
    · exact absurd (hsymm _ _ ▸ hsame) (h p hp q hq hgt)
  · intro h p hp q hq hlt hsame
    exact Nat.lt_irrefl _ (h q hq p hp hsame ▸ hlt)

/-! ### What the single checks ask -/

theorem zoneOnLevel_iff {c : Configuration} {zone level : Nat} :
    zoneOnLevel c zone level = true ↔ ∃ z, c.zones.find zone = some z ∧ z.level = level := by
  unfold zoneOnLevel
  cases c.zones.find zone <;> simp

theorem pairJoins_iff {c : Configuration} {x : PairCfg} :
    pairJoins c x = true ↔
      (∃ l, c.levels.find x.lower = some l) ∧
        ((x.upper = .street ∧ x.lower = 0) ∨
          ∃ u l, x.upper = .level u ∧ c.levels.find u = some l ∧ x.lower = u + 1) := by
  rw [pairJoins, Bool.and_eq_true, Table.has_iff]
  refine and_congr_right fun _ => ?_
  cases x.upper with
  | street => simp
  | level u => simp [Table.has_iff]

theorem find?_addressesInUse_eq_none_iff {c : Configuration} :
    (addressesInUse c).find? (fun a => !c.pollList.contains a) = none ↔
      (∀ p ∈ c.bays, p.2.node ∈ c.pollList) ∧
      (∀ p ∈ c.levels, ∀ a, (p.2.sign1 = some a ∨ p.2.sign2 = some a) → a ∈ c.pollList) ∧
      (∀ p ∈ c.rows, p.2.node ∈ c.pollList) ∧ ∀ p ∈ c.heads, 128 + p.1 ∈ c.pollList := by
  have hfound : (addressesInUse c).find? (fun a => !c.pollList.contains a) = none ↔
      ∀ a ∈ addressesInUse c, a ∈ c.pollList := by simp
  have hsigns : (∀ a ∈ c.levels.flatMap fun p => p.2.sign1.toList ++ p.2.sign2.toList, a ∈ c.pollList) ↔
      ∀ p ∈ c.levels, ∀ a, (p.2.sign1 = some a ∨ p.2.sign2 = some a) → a ∈ c.pollList := by
    simp only [List.forall_mem_flatMap, List.mem_append, Option.mem_toList]
  rw [hfound, addressesInUse, List.forall_mem_append, List.forall_mem_append, List.forall_mem_append, hsigns,
    List.forall_mem_map, List.forall_mem_map, List.forall_mem_map]

theorem commitFailure_eq_none_iff {c : Configuration} : commitFailure c = none ↔ ∀ x ∈ commitChecks c, x = none := by
  simp [commitFailure, List.findSome?_eq_none_iff]

/-- Settles O22: check by check, through what each asks of the records. -/
theorem commitChecksAreTheTen : Obligations.CommitChecksAreTheTen := by
  unfold Obligations.CommitChecksAreTheTen
  intro c hrising
  obtain ⟨hbays, -, -, hrows, -⟩ := Configuration.rising_iff.1 hrising
  have hchannels := sharesEarlier_eq_false_iff (same := fun x y => decide (x.node = y.node) && decide (x.channel = y.channel))
    hbays fun x y => by simp only [eq_comm]
  have hnodes := sharesEarlier_eq_false_iff (same := fun x y => decide (x.node = y.node)) hrows fun x y => by
    simp only [eq_comm]
  simp only [commitFailure_eq_none_iff, commitChecks, List.forall_mem_cons, List.not_mem_nil, false_imp_iff, implies_true,
    and_true, firstFailing_eq_none_iff, hchannels, hnodes, Option.map_eq_none_iff, find?_addressesInUse_eq_none_iff,
    Bool.not_eq_false', Table.has_iff, zoneOnLevel_iff, pairJoins_iff, Bool.and_eq_true, decide_eq_true_eq, and_imp,
    Option.isNone_eq_false_iff, Option.isSome_iff_exists]

end Sys2Proof.Machine
end

section
/-! The edits of the working copy (section 10.3). -/

namespace Sys2Proof.Machine
variable {s : State} {kind number position : Nat} {fields entries : List Nat} {c : Configuration}

/-! ### The three commands, past their mode and busy checks -/

theorem doDefine_of_define {replaced : Bool} (hrun : s.inRun = false) (hwriting : s.writing = false)
    (hfit : kindAndNumberFit kind number = true) (hdefine : s.workingCopy.define kind number fields = some (c, replaced)) :
    doDefine kind number fields s = done (s.setWorking c) (leBytes 1 (bit replaced)) := by
  simp [doDefine, hrun, hwriting, hfit, hdefine]

theorem doDefine_of_refused (hrun : s.inRun = false) (hwriting : s.writing = false)
    (h : kindAndNumberFit kind number = false ∨ s.workingCopy.define kind number fields = none) :
    doDefine kind number fields s = refuse s .badArgument := by
  rw [doDefine]
  rcases h with hfit | hnone
  · simp [hrun, hwriting, hfit]
  · simp [hrun, hwriting, hnone]

theorem doDelete_of_delete (hrun : s.inRun = false) (hwriting : s.writing = false)
    (hfit : kindAndNumberFit kind number = true) (hdelete : s.workingCopy.delete kind number = some c) :
    doDelete kind number s = done (stopDeletedFan kind number (s.setWorking c)) [] := by
  simp [doDelete, hrun, hwriting, hfit, hdelete]

theorem doDelete_of_no_record (hrun : s.inRun = false) (hwriting : s.writing = false)
    (hfit : kindAndNumberFit kind number = true) (hdelete : s.workingCopy.delete kind number = none) :
    doDelete kind number s = refuse s .notFound := by
  simp [doDelete, hrun, hwriting, hfit, hdelete]

theorem doDelete_of_not_fit (hrun : s.inRun = false) (hwriting : s.writing = false)
    (hfit : kindAndNumberFit kind number = false) : doDelete kind number s = refuse s .badArgument := by
  simp [doDelete, hrun, hwriting, hfit]

theorem stopDeletedFan_eq (kind number : Nat) (s : State) :
    stopDeletedFan kind number s =
      { s with fans := if kind = 9 then s.fans.modify number (fun f => { f with commanded := 0 }) else s.fans } := by
  unfold stopDeletedFan
  split <;> rfl

theorem pollPieceFits_iff {list : List Nat} :
    pollPieceFits list position entries = true ↔
      1 ≤ position ∧ position ≤ list.length + 1 ∧ (∀ a ∈ entries, a ≤ 239) ∧ entries.length ≤ 128 ∧
        position - 1 + entries.length ≤ 256 := by
  simp [pollPieceFits, within, and_assoc]

theorem doSetPollList_of_fits (hrun : s.inRun = false) (hwriting : s.writing = false)
    (hfits : pollPieceFits s.workingCopy.pollList position entries = true) :
    doSetPollList position entries s =
      done (s.setWorking { s.workingCopy with pollList := pollPieceWritten s.workingCopy.pollList position entries })
        (leBytes 2 (pollPieceWritten s.workingCopy.pollList position entries).length) := by
  simp [doSetPollList, hrun, hwriting, hfits]

theorem doSetPollList_of_not_fits (hrun : s.inRun = false) (hwriting : s.writing = false)
    (hfits : pollPieceFits s.workingCopy.pollList position entries = false) :
    doSetPollList position entries s = refuse s .badArgument := by
  simp [doSetPollList, hrun, hwriting, hfits]

/-! ### The bay record from its fields -/

theorem defineBay_eq_some_iff {row cls node channel cost on off r0 r1 r2 r3 : Nat} {c : BayCfg}
    (hc : c =
      { row := row, cls := orDefault 0 cls, node := node, channel := channel, cost := cost, onThr := orDefault 400 on,
        offThr := orDefault 250 off, ref0 := orAbsent r0, ref1 := orAbsent r1, ref2 := orAbsent r2, ref3 := orAbsent r3 }) :
    defineBay [row, cls, node, channel, cost, on, off, r0, r1, r2, r3] = some c ↔
      row ≤ 63 ∧ orDefault 0 cls ≤ 3 ∧ node ≤ 127 ∧ channel ≤ 7 ∧ 50 ≤ orDefault 400 on ∧ orDefault 400 on ≤ 8000 ∧
        20 ≤ orDefault 250 off ∧ orDefault 250 off < orDefault 400 on := by
  have hbelow : 50 ≤ orDefault 400 on → (orDefault 250 off ≤ orDefault 400 on - 1 ↔ orDefault 250 off < orDefault 400 on) :=
    fun h => by omega
  simp only [defineBay, ← hc]
  rw [Option.ite_none_right_eq_some, hc]
  simp only [within, Bool.and_eq_true, decide_eq_true_eq, Nat.zero_le, true_and, and_true, and_assoc]
  refine and_congr_right fun _ => and_congr_right fun _ => and_congr_right fun _ => and_congr_right fun _ =>
    and_congr_right fun hfifty => ?_
  rw [hbelow hfifty]

/-- An on threshold of 250 or below with the off threshold at its default is refused (R1). -/
theorem defineBay_default_off_eq_none {row cls node channel cost on r0 r1 r2 r3 : Nat} (hon : on ≤ 250) :
    defineBay [row, cls, node, channel, cost, on, 0xFFFF, r0, r1, r2, r3] = none := by
  refine Option.eq_none_iff_forall_ne_some.2 fun c hc => ?_
  obtain rfl : c = _ := (Option.some.inj (Option.ite_none_right_eq_some.1 hc).2).symm
  obtain ⟨-, -, -, -, -, -, -, hbelow⟩ := (defineBay_eq_some_iff rfl).1 hc
  have hkept : orDefault 400 on = on := if_neg (by omega)
  rw [hkept] at hbelow
  exact absurd hbelow (not_lt.2 hon)

/-- Settles O23: each edit by its range check, and the fields of a bay by its record. -/
theorem editsReachWorkingCopy : Obligations.EditsReachWorkingCopy := by
  unfold Obligations.EditsReachWorkingCopy
  refine ⟨fun s tag hready hrun hwriting => ⟨fun kind number fields hlen => ⟨fun c replaced hfit hdefine => ?define,
      fun hrefused => ?defineRefused⟩, fun kind number => ⟨fun c hfit hdelete => ?delete, fun hfit hdelete => ?deleteNone,
      fun hfit => ?deleteRefused⟩, fun position entries => ⟨fun hfits => ?poll, fun hfits => ?pollRefused⟩⟩,
    fun row cls node channel cost on off r0 r1 r2 r3 => ⟨defineBay_eq_some_iff rfl, defineBay_default_off_eq_none⟩⟩
  case define =>
    exact exec_answers (c := .define kind number fields) rfl hready rfl (by decide) rfl hlen
      (doDefine_of_define hrun hwriting hfit hdefine)
  case defineRefused =>
    exact exec_answers (c := .define kind number fields) rfl hready rfl (by decide) rfl hlen
      (doDefine_of_refused hrun hwriting hrefused)
  case delete =>
    exact exec_answers (c := .delete kind number) rfl hready rfl (by decide) rfl rfl
      ((doDelete_of_delete hrun hwriting hfit hdelete).trans (by rw [stopDeletedFan_eq]; rfl))
  case deleteNone =>
    exact exec_answers (c := .delete kind number) rfl hready rfl (by decide) rfl rfl
      (doDelete_of_no_record hrun hwriting hfit hdelete)
  case deleteRefused =>
    exact exec_answers (c := .delete kind number) rfl hready rfl (by decide) rfl rfl
      (doDelete_of_not_fit hrun hwriting hfit)
  case poll =>
    exact exec_answers (c := .setPollList position entries) rfl hready rfl (by decide) rfl rfl
      (doSetPollList_of_fits hrun hwriting (pollPieceFits_iff.2 hfits))
  case pollRefused =>
    exact exec_answers (c := .setPollList position entries) rfl hready rfl (by decide) rfl rfl
      (doSetPollList_of_not_fits hrun hwriting (Bool.eq_false_iff.2 fun h => hfits (pollPieceFits_iff.1 h)))

end Sys2Proof.Machine
end

section
/-! The order of a COMMIT, and what it takes into force (section 10.4). -/

namespace Sys2Proof.Machine
variable {s t u : State}

/-! ### COMMIT in its three parts -/

/-- The records of a COMMIT: merged, then the totals, the census and the zones (R191 steps 1 to 4). -/
def commitRecords (c : Configuration) (s : State) : State := commitAir (commitCensus (commitTotals s (mergeWorking c s)))

/-- The loads of a COMMIT: the fans, then one computation that hands every grant (R191 steps 5 to 7). -/
def commitLoads (c : Configuration) (s : State) : State := compute true (commitFans s (commitRecords c s))

/-- A COMMIT but for its event (R191). -/
def committed (c : Configuration) (s : State) : State := commitLoop c.pollList (commitBands (commitLoads c s))

theorem takeConfiguration_eq (c : Configuration) (s : State) :
    takeConfiguration c s = post .modeChanged 1 0 1 (committed c s) := rfl

/-- An evaluation never lowers a stage, so that none calls for a pass: it writes its zone alone (R107, R109). -/
theorem changeStage_of_rise {zone new : Nat} {z : Zone} (hfind : s.zones.find zone = some z) (hrise : z.stage < new) :
    changeStage zone new s =
      forEach (zoneLevels s zone) (levelCheck s)
        (post .stageChanged zone new z.stage (s.modZone zone fun z => { z with stage := new })) := by
  have hno : ¬ (z.stage = 4 ∧ new = 3) := fun h => by omega
  simp only [changeStage, hfind, if_neg hno]

theorem changeStage_rise_within {zone new : Nat} {z : Zone} (hfind : s.zones.find zone = some z) (hrise : z.stage < new) :
    Within [.zones] s (changeStage zone new s) := by
  rw [changeStage_of_rise hfind hrise]
  exact ((modZone_within ..).trans ((post_within ..).mono (by decide))).trans
    ((forEach_within _ (levelCheck_within s) _ _).mono (by decide))

theorem highestEntry_above {table : StageTable} {z : Zone} {k : Nat} (h : highestEntry table z = some k) : z.stage < k := by
  have hfound := List.find?_some h
  simp only [Bool.and_eq_true, decide_eq_true_eq] at hfound
  exact hfound.1

theorem evaluateZone_zones_within (zone : Nat) (s : State) : Within [.zones] s (evaluateZone zone s) := by
  cases hfind : s.zones.find zone with
  | none => simpa [evaluateZone, hfind] using Within.refl _ s
  | some z =>
    cases hsafe : z.failsafe with
    | true => simpa [evaluateZone_of_failsafe hfind hsafe] using Within.refl _ s
    | false =>
      cases hrise : highestEntry s.stageTable z with
      | none =>
        rw [evaluateZone_of_no_rise hfind hsafe hrise]
        exact modZone_within ..
      | some k =>
        rw [evaluateZone_of_rise hfind hsafe hrise]
        exact (modZone_within ..).trans
          (changeStage_rise_within (z := { z with dwell := none }) (by simp [hfind]) (highestEntry_above hrise))

theorem commitAir_zones_within (s : State) : Within [.zones] s (commitAir s) :=
  forEach_within _ (fun n s => (refreshZone_within n s).trans (evaluateZone_zones_within n _)) _ s

theorem commitRecords_within (c : Configuration) (s : State) :
    Within [.levels, .zones] (mergeWorking c s) (commitRecords c s) :=
  (((commitTotals_within ..).mono (by decide)).trans ((commitCensus_within _).mono (by decide))).trans
    ((commitAir_zones_within _).mono (by decide))

theorem commitLoads_within (c : Configuration) (s : State) :
    Within [.rows, .fans, .supply] (commitRecords c s) (commitLoads c s) :=
  ((commitFans_within ..).mono (by decide)).trans (compute_within true _)

theorem committed_loads_within (c : Configuration) (s : State) : Within [.fieldLoop] (commitLoads c s) (committed c s) :=
  (commitBands_within _).trans (commitLoop_within ..)

theorem committed_within (c : Configuration) (s : State) :
    Within [.levels, .zones, .rows, .fans, .supply, .fieldLoop] (mergeWorking c s) (committed c s) :=
  (((commitRecords_within c s).mono (by decide)).trans ((commitLoads_within c s).mono (by decide))).trans
    ((committed_loads_within c s).mono (by decide))

/-! ### The records in force keep their configuration fields -/

/-- The configuration of the levels, of the zones and of the fans in force. -/
def State.levelCfgs (s : State) : Table LevelCfg := s.levels.mapRecords fun _ l => l.cfg

def State.zoneCfgs (s : State) : Table ZoneCfg := s.zones.mapRecords fun _ z => z.cfg

def State.fanCfgs (s : State) : Table FanCfg := s.fans.mapRecords fun _ f => f.cfg

theorem levelCfgs_of_levels (h : t.levels = s.levels) : t.levelCfgs = s.levelCfgs := by simp [State.levelCfgs, h]
theorem zoneCfgs_of_zones (h : t.zones = s.zones) : t.zoneCfgs = s.zoneCfgs := by simp [State.zoneCfgs, h]
theorem fanCfgs_of_fans (h : t.fans = s.fans) : t.fanCfgs = s.fanCfgs := by simp [State.fanCfgs, h]

theorem modLevel_levelCfgs {n : Nat} {f : Level → Level} (h : ∀ l, (f l).cfg = l.cfg) :
    (s.modLevel n f).levelCfgs = s.levelCfgs := Table.mapRecords_modify _ _ _ _ fun l _ => h l

theorem modZone_zoneCfgs {n : Nat} {f : Zone → Zone} (h : ∀ z, (f z).cfg = z.cfg) :
    (s.modZone n f).zoneCfgs = s.zoneCfgs := Table.mapRecords_modify _ _ _ _ fun z _ => h z

theorem modFan_fanCfgs {n : Nat} {f : Fan → Fan} (h : ∀ x, (f x).cfg = x.cfg) : (s.modFan n f).fanCfgs = s.fanCfgs :=
  Table.mapRecords_modify _ _ _ _ fun x _ => h x

theorem updateDrift_levelCfgs (n : Nat) (s : State) : (updateDrift n s).levelCfgs = s.levelCfgs :=
  modLevel_levelCfgs fun l => (l.agrees_driftUpdated _ _).1

theorem driftExpire_levelCfgs (n : Nat) (s : State) : (driftExpire n s).levelCfgs = s.levelCfgs := by
  unfold driftExpire
  split
  · rfl
  · split
    · rw [post_eq]
      exact modLevel_levelCfgs fun _ => rfl
    · rfl

theorem censusCheck_levelCfgs (n : Nat) (s : State) : (censusCheck n s).levelCfgs = s.levelCfgs := by
  unfold censusCheck
  split
  · rfl
  · split
    · rw [updateDrift_levelCfgs, post_eq]
      exact modLevel_levelCfgs fun _ => rfl
    · rfl

theorem setPending_levelCfgs (n : Nat) (s : State) : (setPending n s).levelCfgs = s.levelCfgs :=
  modLevel_levelCfgs fun _ => rfl

theorem commitCensus_levelCfgs (s : State) : (commitCensus s).levelCfgs = s.levelCfgs := by
  unfold commitCensus
  rw [forEach_same State.levelCfgs _ censusCheck_levelCfgs,
    forEach_same State.levelCfgs _ setPending_levelCfgs,
    forEach_same State.levelCfgs _ fun n s => (driftExpire_levelCfgs ..).trans (updateDrift_levelCfgs n s)]

theorem changeStage_zoneCfgs (n k : Nat) (s : State) : (changeStage n k s).zoneCfgs = s.zoneCfgs := by
  unfold State.zoneCfgs
  rw [changeStage_zones]
  exact Table.mapRecords_modify _ _ _ _ fun _ _ => rfl

theorem evaluateZone_zoneCfgs (n : Nat) (s : State) : (evaluateZone n s).zoneCfgs = s.zoneCfgs := by
  cases hfind : s.zones.find n with
  | none => simp [evaluateZone, hfind]
  | some z =>
    cases hsafe : z.failsafe with
    | true => rw [evaluateZone_of_failsafe hfind hsafe]
    | false =>
      cases hrise : highestEntry s.stageTable z with
      | none =>
        rw [evaluateZone_of_no_rise hfind hsafe hrise]
        exact modZone_zoneCfgs fun _ => rfl
      | some k =>
        rw [evaluateZone_of_rise hfind hsafe hrise]
        exact (changeStage_zoneCfgs ..).trans (modZone_zoneCfgs (f := fun z => { z with dwell := none }) fun _ => rfl)

theorem refreshZone_zoneCfgs (n : Nat) (s : State) : (refreshZone n s).zoneCfgs = s.zoneCfgs := by
  cases hfind : s.zones.find n with
  | none => simp [refreshZone, hfind]
  | some z =>
    by_cases hheads : s.usableHeads n = []
    · cases hsafe : z.failsafe with
      | true => rw [refreshZone_of_failsafe hfind hheads hsafe]
      | false =>
        rw [refreshZone_of_entering hfind hheads hsafe, post_eq]
        exact modZone_zoneCfgs fun _ => rfl
    · rw [refreshZone_of_heads hfind hheads]
      split
      · rw [post_eq]
        exact modZone_zoneCfgs fun _ => rfl
      · exact modZone_zoneCfgs fun _ => rfl

theorem commitAir_zoneCfgs (s : State) : (commitAir s).zoneCfgs = s.zoneCfgs :=
  forEach_same State.zoneCfgs _ (fun n s => (evaluateZone_zoneCfgs ..).trans (refreshZone_zoneCfgs n s)) _ s

theorem fanToFault_fanCfgs (ch : Nat) (s : State) : (fanToFault ch s).fanCfgs = s.fanCfgs := by
  unfold fanToFault
  split
  · rfl
  · rw [post_eq]
    exact modFan_fanCfgs fun _ => rfl

theorem commitNewFan_fanCfgs (ch : Nat) (s : State) : (commitNewFan ch s).fanCfgs = s.fanCfgs := by
  have hturned : (s.modFan ch fun f => { f with direction := s.dueDirection f }).fanCfgs = s.fanCfgs :=
    modFan_fanCfgs fun _ => rfl
  unfold commitNewFan
  dsimp only
  split
  · exact (fanToFault_fanCfgs ..).trans hturned
  · exact hturned

theorem formRequest_cfg (s : State) (f : Fan) : (s.formRequest f).cfg = f.cfg := by
  unfold State.formRequest
  split <;> rfl

theorem handDemands_fanCfgs (s : State) : (handDemands s).fanCfgs = s.fanCfgs := by
  simp only [State.fanCfgs, handDemands, Table.mapRecords_mapRecords, formRequest_cfg]

theorem beginReversal_fanCfgs (ch : Nat) (s : State) : (beginReversal ch s).fanCfgs = s.fanCfgs := by
  unfold beginReversal
  split
  · rfl
  · split
    · split
      · exact modFan_fanCfgs fun _ => rfl
      · exact modFan_fanCfgs fun _ => rfl
    · rfl

theorem commitFans_fanCfgs (before s : State) : (commitFans before s).fanCfgs = s.fanCfgs := by
  unfold commitFans
  dsimp only
  rw [forEach_same State.fanCfgs _ beginReversal_fanCfgs, handDemands_fanCfgs,
    forEach_same State.fanCfgs _ commitNewFan_fanCfgs]

theorem LoadsStand.fanCfgs (h : LoadsStand s t) : t.fanCfgs = s.fanCfgs := by
  have hstandings : (t.fanStandings.mapRecords fun _ x => x.1) = s.fanStandings.mapRecords fun _ x => x.1 := by
    rw [h.fans]
  simpa only [State.fanStandings, State.fanCfgs, Table.mapRecords_mapRecords, Fan.standing] using hstandings

theorem LoadsStand.rowCfgs (h : LoadsStand s t) :
    (t.rows.mapRecords fun _ r => r.cfg) = s.rows.mapRecords fun _ r => r.cfg := by
  have hstandings : (t.rowStandings.mapRecords fun _ x => x.1) = s.rowStandings.mapRecords fun _ x => x.1 := by
    rw [h.rows]
  simpa only [State.rowStandings, Table.mapRecords_mapRecords, Row.standing] using hstandings

/-! ### What is in force after a COMMIT -/

theorem commitBay_cfg (s : State) (n : Nat) (c : BayCfg) : (commitBay s n c).cfg = c := by
  unfold commitBay
  dsimp only
  split
  · split <;> rfl
  · rfl

theorem commitPair_cfg (s : State) (n : Nat) (c : PairCfg) : (commitPair s n c).cfg = c := by
  unfold commitPair
  split
  · split
    next h => exact h
    next => rfl
  · rfl

theorem commitLevel_cfg (s : State) (n : Nat) (c : LevelCfg) : (commitLevel s n c).cfg = c := by
  unfold commitLevel
  split <;> rfl

theorem commitHead_cfg (s : State) (n : Nat) (c : HeadCfg) : (commitHead s n c).cfg = c := by
  unfold commitHead
  split <;> rfl

theorem commitZone_cfg (s : State) (n : Nat) (c : ZoneCfg) : (commitZone s n c).cfg = c := by
  unfold commitZone
  split <;> rfl

theorem commitRow_cfg (s : State) (n : Nat) (c : RowCfg) : (commitRow s n c).cfg = c := by
  unfold commitRow
  split
  · split <;> rfl
  · rfl

theorem commitFan_cfg (s : State) (n : Nat) (c : FanCfg) : (commitFan s n c).cfg = c := by
  unfold commitFan
  split
  · unfold Fan.leaveHeld
    split <;> rfl
  · rfl

theorem Table.mapRecords_id {α : Type} (t : Table α) : (t.mapRecords fun _ x => x) = t := by simp [Table.mapRecords]

theorem mergeWorking_inForce (c : Configuration) (s : State) :
    (mergeWorking c s).inForce = { c with pollList := s.loop.pollList } := by
  simp only [State.inForce, mergeWorking, Table.mapRecords_mapRecords, commitBay_cfg, commitPair_cfg, commitLevel_cfg,
    commitRow_cfg, commitHead_cfg, commitZone_cfg, commitFan_cfg, Table.mapRecords_id]

/-! ### The walk after a COMMIT -/

theorem startTransaction_loop (s : State) :
    (startTransaction s).loop = { s.loop with current := (startTransaction s).loop.current } := by
  unfold startTransaction
  split <;> rfl

theorem forEach_makePending_loop (p : PendingBand) (l : List Nat) (s : State) :
    (forEach l (fun a s => makePending a p s) s).loop =
      { s.loop with pendingBands := (forEach l (fun a s => makePending a p s) s).loop.pendingBands } := by
  induction l generalizing s with
  | nil => rfl
  | cons a l ih =>
    rw [forEach_cons, ih]
    rfl

theorem commitLoop_loop (list : List Nat) (s : State) :
    (commitLoop list s).loop =
      { s.loop with
        pollList := list
        next := if list = [] then 0 else 1
        state := if s.loop.state = .draining then .draining else .running
        current := (commitLoop list s).loop.current } := by
  rw [← firstEntry_eq]
  exact startTransaction_loop _

theorem commitBands_loop (s : State) :
    (commitBands s).loop = { s.loop with pendingBands := (commitBands s).loop.pendingBands } :=
  forEach_makePending_loop ..

theorem commitLoads_loop (c : Configuration) (s : State) : (commitLoads c s).loop = s.loop :=
  ((commitLoads_within c s).loop_eq (by decide)).trans ((commitRecords_within c s).loop_eq (by decide))

theorem committed_loop (c : Configuration) (s : State) :
    (committed c s).loop =
      { s.loop with
        pollList := c.pollList
        next := if c.pollList = [] then 0 else 1
        state := if s.loop.state = .draining then .draining else .running
        pendingBands := (commitBands (commitLoads c s)).loop.pendingBands
        current := (committed c s).loop.current } := by
  have hbands := commitBands_loop (commitLoads c s)
  rw [commitLoads_loop] at hbands
  unfold committed
  generalize commitBands (commitLoads c s) = u at hbands ⊢
  rw [commitLoop_loop, hbands]

theorem committed_levelCfgs (c : Configuration) (s : State) : (committed c s).levelCfgs = (mergeWorking c s).levelCfgs := by
  rw [levelCfgs_of_levels ((committed_loads_within c s).levels_eq (by decide)),
    levelCfgs_of_levels ((commitLoads_within c s).levels_eq (by decide)), commitRecords,
    levelCfgs_of_levels ((commitAir_zones_within _).levels_eq (by decide)), commitCensus_levelCfgs,
    levelCfgs_of_levels ((commitTotals_within ..).levels_eq (by decide))]

theorem committed_zoneCfgs (c : Configuration) (s : State) : (committed c s).zoneCfgs = (mergeWorking c s).zoneCfgs := by
  rw [zoneCfgs_of_zones ((committed_loads_within c s).zones_eq (by decide)),
    zoneCfgs_of_zones ((commitLoads_within c s).zones_eq (by decide)), commitRecords, commitAir_zoneCfgs,
    zoneCfgs_of_zones ((commitCensus_within _).zones_eq (by decide)),
    zoneCfgs_of_zones ((commitTotals_within ..).zones_eq (by decide))]

theorem committed_fanCfgs (c : Configuration) (s : State) : (committed c s).fanCfgs = (mergeWorking c s).fanCfgs := by
  rw [fanCfgs_of_fans ((committed_loads_within c s).fans_eq (by decide)), commitLoads, (compute_stands ..).fanCfgs,
    commitFans_fanCfgs, fanCfgs_of_fans ((commitRecords_within c s).fans_eq (by decide))]

theorem committed_rowCfgs (c : Configuration) (s : State) :
    ((committed c s).rows.mapRecords fun _ r => r.cfg) = (mergeWorking c s).rows.mapRecords fun _ r => r.cfg := by
  rw [(committed_loads_within c s).rows_eq (by decide), commitLoads, (compute_stands ..).rowCfgs,
    (commitFans_within ..).rows_eq (by decide), (commitRecords_within c s).rows_eq (by decide)]

theorem committed_inForce (c : Configuration) (s : State) : (committed c s).inForce = c := by
  have hwithin := committed_within c s
  have hmerged := mergeWorking_inForce c s
  have hparts : (committed c s).inForce =
      { (mergeWorking c s).inForce with pollList := (committed c s).loop.pollList } := by
    simp only [State.inForce, hwithin.bays_eq (by decide), hwithin.pairs_eq (by decide), hwithin.heads_eq (by decide),
      hwithin.jitter_eq (by decide), committed_rowCfgs]
    rw [show (committed c s).levels.mapRecords _ = _ from committed_levelCfgs c s,
      show (committed c s).zones.mapRecords _ = _ from committed_zoneCfgs c s,
      show (committed c s).fans.mapRecords _ = _ from committed_fanCfgs c s]
    rfl
  rw [hparts, hmerged, committed_loop]

/-! ### The command -/

section
variable {tag : Nat} (hready : Ready s .supervisor = true) (hrun : s.inRun = false) (hwriting : s.writing = false)
include hrun hwriting

theorem doCommit_of_failure {f : CommitFailure} (hfails : commitFailure s.workingCopy = some f) :
    doCommit s = answer s .badConfig (joinFields [1, 1, 2] [f.check, f.kind, f.number]) := by
  simp [doCommit, hrun, hwriting, hfails]

theorem doCommit_of_passes (hpasses : commitFailure s.workingCopy = none) :
    doCommit s = done (post .modeChanged 1 0 1 (committed s.workingCopy s)) [] := by
  simp [doCommit, hrun, hwriting, hpasses, takeConfiguration_eq]

include hready

theorem exec_commit_of_passes (hpasses : commitFailure s.workingCopy = none) :
    exec (.commit .supervisor tag) s =
      replies s .supervisor tag 0x11 .done [] (post .modeChanged 1 0 1 (committed s.workingCopy s)) :=
  exec_answers (c := .commit) rfl hready rfl (by decide) rfl rfl (doCommit_of_passes hrun hwriting hpasses)

end

/-- Settles O19: the first failing check is answered, or the working copy is taken. -/
theorem commitTakesWorkingCopy : Obligations.CommitTakesWorkingCopy := by
  unfold Obligations.CommitTakesWorkingCopy
  intro s tag hready hrun hwriting
  refine ⟨fun f hfails => ?failure, fun hpasses => ?passes⟩
  case failure =>
    exact exec_answers (c := .commit) rfl hready rfl (by decide) rfl rfl (doCommit_of_failure hrun hwriting hfails)
  case passes =>
    have hwithin := committed_within s.workingCopy s
    have hloop := committed_loop s.workingCopy s
    refine ⟨committed s.workingCopy s, exec_commit_of_passes hready hrun hwriting hpasses,
      hwithin.control_eq (by decide), committed_inForce s.workingCopy s, hwithin.guidance_eq (by decide), ?_, ?_, ?_,
      ⟨hwithin.pending, hwithin.deckTime, hwithin.pins, hwithin.censusMinute_eq (by decide),
        hwithin.censusStart_eq (by decide), hwithin.fade_eq (by decide), hwithin.stageTable_eq (by decide),
        hwithin.airMinute_eq (by decide)⟩, hwithin.ports, hwithin.bands_eq (by decide)⟩
    · rw [hloop]
    · rw [hloop]
    · rw [hloop]

end Sys2Proof.Machine
end

section
/-! The records that COMMIT keeps or takes anew (section 10.4). -/

namespace Sys2Proof.Machine
variable {s t u : State}

/-! ### A part of the state that one turn of several writes -/

/-- Of a list of turns at most one of which is the one a part of the state has: that part stands as its own turn leaves it, taken
in a state where the part is still as it was. -/
theorem forEach_once {α γ : Type} {R : State → State → Prop} (hrefl : ∀ s, R s s)
    (htrans : ∀ a b c, R a b → R b c → R a c) {view : State → γ} {turn : α → State → State} {mine : α → Prop}
    (hturn : ∀ x s, R s (turn x s)) (hother : ∀ x s, ¬ mine x → view (turn x s) = view s) {l : List α}
    (hone : l.Pairwise fun x y => mine x → ¬ mine y) (s : State) :
    ((∀ x ∈ l, ¬ mine x) ∧ view (forEach l turn s) = view s) ∨
      ∃ x ∈ l, mine x ∧ ∃ u, R s u ∧ view u = view s ∧ view (forEach l turn s) = view (turn x u) := by
  induction l generalizing s with
  | nil => exact .inl ⟨by simp, rfl⟩
  | cons x l ih =>
    obtain ⟨hfirst, hrest⟩ := List.pairwise_cons.1 hone
    rw [forEach_cons]
    by_cases hx : mine x
    · refine .inr ⟨x, List.mem_cons_self, hx, s, hrefl s, rfl, ?_⟩
      rcases ih hrest (turn x s) with ⟨-, hsame⟩ | ⟨y, hy, hmine, -⟩
      · exact hsame
      · exact absurd hmine (hfirst y hy hx)
    · have hstep := hother x s hx
      rcases ih hrest (turn x s) with ⟨hnone, hsame⟩ | ⟨y, hy, hmine, u, hu, hview, hlast⟩
      · exact .inl ⟨List.forall_mem_cons.2 ⟨hx, hnone⟩, hsame.trans hstep⟩
      · exact .inr ⟨y, List.mem_cons_of_mem _ hy, hmine, u, htrans _ _ _ (hturn x s) hu, hview.trans hstep, hlast⟩

/-- The turns of the numbers of a table that rises, each of which writes the record of its number alone. -/
theorem forEach_numbers_find {α : Type} {parts : List Part} {table : State → Table α} {turn : Nat → State → State}
    (hturn : ∀ n s, Within parts s (turn n s))
    (hother : ∀ n k s, k ≠ n → (table (turn n s)).find k = (table s).find k) {l : List Nat} (hrising : l.Pairwise (· < ·))
    {k : Nat} (hk : k ∈ l) (s : State) :
    ∃ u, Within parts s u ∧ (table u).find k = (table s).find k ∧
      (table (forEach l turn s)).find k = (table (turn k u)).find k := by
  have hone : l.Pairwise fun x y => x = k → ¬ y = k := hrising.imp fun hlt hx hy => by omega
  rcases forEach_once (R := Within parts) (Within.refl parts) (fun _ _ _ => Within.trans) (view := fun s => (table s).find k)
    (mine := (· = k)) hturn (fun x s hx => hother x k s fun heq => hx heq.symm) hone s with ⟨hnone, -⟩ | ⟨x, -, rfl, hu⟩
  · exact absurd rfl (hnone k hk)
  · exact hu

theorem Table.mem_numbers_of_find {α : Type} {t : Table α} {k : Nat} {x : α} (h : t.find k = some x) : k ∈ t.numbers :=
  List.mem_map.2 ⟨(k, x), Table.find_mem _ _ _ h, rfl⟩

/-! ### The census of a COMMIT -/

theorem presentCount_of_within {parts : List Part} (h : Within parts s t) (hbays : .bays ∉ parts) (hrows : .rows ∉ parts)
    (level : Nat) : t.presentCount level = s.presentCount level :=
  presentCount_congr (h.bays_eq hbays) (rowLevel_congr (by rw [h.rows_eq hrows])) level

theorem rampsIdle_of_pairs (h : t.pairs = s.pairs) (level : Nat) : rampsIdle t level = rampsIdle s level := by
  simp only [rampsIdle, h]

/-- A level whose drift timer has reached its expiry is REPORTED (R42). -/
def Level.driftExpired (now : Time) (l : Level) : Level :=
  if timerDue now l.driftExpiry then { l with drift := .reported } else l

theorem driftExpire_levels (n : Nat) (s : State) :
    (driftExpire n s).levels = s.levels.modify n (Level.driftExpired s.deckTime) := by
  unfold driftExpire
  cases hfind : s.levels.find n with
  | none => rw [Table.modify_of_not_find _ _ _ hfind]
  | some l =>
    dsimp only
    split
    next hdue =>
      rw [post_eq]
      exact Table.modify_of_find _ _ _ _ _ hfind (by simp [Level.driftExpired, hdue])
    next hdue => rw [Table.modify_of_find_fixed hfind (by simp [Level.driftExpired, hdue])]

/-- A level with the drift state its new limit and time give it (R45). -/
def Level.driftCommitted (now : Time) (present : Nat) (l : Level) : Level :=
  (l.driftUpdated now present).driftExpired now

/-- A level once its census is set pending and checked (R40, R45). -/
def Level.censusCommitted (now : Time) (present : Nat) (idle : Bool) (l : Level) : Level :=
  if idle then { l with count := present, pending := false, drift := .idle }
  else { l.driftCommitted now present with pending := true }

theorem driftTurn_levels (n : Nat) (s : State) :
    (driftExpire n (updateDrift n s)).levels =
      s.levels.modify n (Level.driftCommitted s.deckTime (s.presentCount n)) := by
  rw [driftExpire_levels]
  exact Table.modify_modify ..

theorem censusCheck_find_other {n k : Nat} (h : k ≠ n) (s : State) :
    (censusCheck n s).levels.find k = s.levels.find k := by
  cases hfind : s.levels.find n with
  | none => simp [censusCheck, hfind]
  | some l =>
    by_cases hwait : l.pending = false ∨ rampsIdle s n = false
    · rw [censusCheck_of_waiting hfind hwait]
    · rw [not_or, Bool.not_eq_false, Bool.not_eq_false] at hwait
      rw [censusCheck_of_idle hfind hwait.1 hwait.2, post_eq]
      exact (Table.find_modify ..).trans (if_neg h)

theorem censusCheck_find {n : Nat} {l : Level} (hfind : s.levels.find n = some { l with pending := true }) :
    (censusCheck n s).levels.find n =
      some
        (if rampsIdle s n then { l with count := s.presentCount n, pending := false, drift := .idle }
         else { l with pending := true }) := by
  cases hidle : rampsIdle s n with
  | false => rw [censusCheck_of_waiting hfind (.inr hidle), hfind]; rfl
  | true =>
    rw [censusCheck_of_idle hfind rfl hidle, post_eq]
    simp [hfind]

section
variable {n : Nat} {l : Level} {ns : List Nat} (hsorted : ns.Pairwise (· < ·)) (hmem : n ∈ ns)
include hsorted hmem

theorem forEach_driftTurn_find (hfind : s.levels.find n = some l) :
    (forEach ns (fun n s => driftExpire n (updateDrift n s)) s).levels.find n =
      some (l.driftCommitted s.deckTime (s.presentCount n)) := by
  obtain ⟨u, hu, hview, hlast⟩ := forEach_numbers_find (table := State.levels) (parts := [.levels])
    (turn := fun n s => driftExpire n (updateDrift n s)) (fun n s => (updateDrift_within n s).trans (driftExpire_within n _))
    (fun m k s hk => by rw [driftTurn_levels]; exact (Table.find_modify ..).trans (if_neg hk)) hsorted hmem s
  rw [hlast, driftTurn_levels, Table.find_modify, if_pos rfl, hview, hfind, hu.deckTime,
    presentCount_of_within hu (by decide) (by decide)]
  rfl

theorem forEach_setPending_find (hfind : s.levels.find n = some l) :
    (forEach ns setPending s).levels.find n = some { l with pending := true } := by
  obtain ⟨u, hu, hview, hlast⟩ := forEach_numbers_find (table := State.levels) (parts := [.levels]) setPending_within
    (fun m k s hk => (Table.find_modify ..).trans (if_neg hk)) hsorted hmem s
  rw [hlast, setPending_find (hview.trans hfind)]

theorem forEach_censusCheck_find (hfind : s.levels.find n = some { l with pending := true }) :
    (forEach ns censusCheck s).levels.find n =
      some
        (if rampsIdle s n then { l with count := s.presentCount n, pending := false, drift := .idle }
         else { l with pending := true }) := by
  obtain ⟨u, hu, hview, hlast⟩ := forEach_numbers_find (table := State.levels) (parts := [.levels]) censusCheck_within
    (fun m k s hk => censusCheck_find_other hk s) hsorted hmem s
  rw [hlast, censusCheck_find (hview.trans hfind), rampsIdle_of_pairs (hu.pairs_eq (by decide)),
    presentCount_of_within hu (by decide) (by decide)]

end

theorem Level.agrees_driftCommitted (now : Time) (present : Nat) (l : Level) :
    l.agrees (l.driftCommitted now present) := by
  refine (l.agrees_driftUpdated now present).trans ?_
  unfold Level.driftCommitted Level.driftExpired
  split <;> exact ⟨rfl, rfl, rfl, rfl⟩

/-- Every level of a COMMIT, its census checked with the ramps as they stand (R45). -/
theorem commitCensus_find (hrising : s.levels.rising = true) {n : Nat} {l : Level} (hfind : s.levels.find n = some l) :
    (commitCensus s).levels.find n =
      some (l.censusCommitted s.deckTime (s.presentCount n) (rampsIdle s n)) := by
  have hsorted := (Table.rising_iff_pairwise _).1 hrising
  have hmem := Table.mem_numbers_of_find hfind
  have hdrifted : Within [.levels] s (forEach s.levels.numbers (fun n s => driftExpire n (updateDrift n s)) s) :=
    forEach_within _ (fun n s => (updateDrift_within n s).trans (driftExpire_within n _)) _ s
  have hpending := hdrifted.trans (forEach_within (parts := [.levels]) _ setPending_within s.levels.numbers _)
  refine (forEach_censusCheck_find hsorted hmem
    (forEach_setPending_find hsorted hmem (forEach_driftTurn_find hsorted hmem hfind))).trans ?_
  rw [rampsIdle_of_pairs (hpending.pairs_eq (by decide)), presentCount_of_within hpending (by decide) (by decide)]
  obtain ⟨hcfg, -, hring, -⟩ := l.agrees_driftCommitted s.deckTime (s.presentCount n)
  unfold Level.censusCommitted
  split
  · simp [← hcfg, ← hring]
  · rfl

/-- The drift state a drift time counted from `start` gives (R45). -/
def Drift.runFrom (now : Time) (c : LevelCfg) (start : Time) : Drift :=
  if Time.reached now (Time.plus start (c.driftTime * 10)) then .reported else .timing start

/-- The drift state COMMIT leaves a level whose counts differ by more than its limit (R45). -/
def Drift.committed (now : Time) (c : LevelCfg) : Drift → Drift
  | .idle => Drift.runFrom now c now
  | .timing start => Drift.runFrom now c start
  | .reported => .reported

theorem Level.driftCommitted_within {now : Time} {present : Nat} {l : Level} (h : distance l.count present ≤ l.cfg.driftLimit) :
    (l.driftCommitted now present).drift = .idle := by
  simp [Level.driftCommitted, Level.driftUpdated, not_lt.2 h, Level.driftExpired, Level.driftExpiry, timerDue]

theorem Level.driftCommitted_beyond {now : Time} {present : Nat} {l : Level} (h : l.cfg.driftLimit < distance l.count present) :
    (l.driftCommitted now present).drift = l.drift.committed now l.cfg := by
  cases hdrift : l.drift with
  | reported => simp [Level.driftCommitted, Level.driftUpdated, h, hdrift, Level.driftExpired, Level.driftExpiry, timerDue, Drift.committed]
  | idle =>
    simp only [Level.driftCommitted, Level.driftUpdated, if_pos h, hdrift, Level.driftExpired, Level.driftExpiry,
      timerDue_some, Drift.committed, Drift.runFrom]
    split <;> rfl
  | timing start =>
    simp only [Level.driftCommitted, Level.driftUpdated, if_pos h, hdrift, Level.driftExpired, Level.driftExpiry,
      timerDue_some, Drift.committed, Drift.runFrom]
    split <;> rfl

/-! ### The zones of a COMMIT -/

/-- A zone brought up to date with its usable heads (R102, R111, R112). -/
def Zone.refreshed (heads : List Head) (z : Zone) : Zone :=
  if heads = [] then (if z.failsafe then z else { z with failsafe := true, dwell := none })
  else { z with failsafe := false, coInst := (instValues heads).1, no2Inst := (instValues heads).2 }

theorem refreshZone_zones (n : Nat) (s : State) :
    (refreshZone n s).zones = s.zones.modify n (Zone.refreshed (s.usableHeads n)) := by
  cases hfind : s.zones.find n with
  | none => rw [Table.modify_of_not_find _ _ _ hfind]; simp [refreshZone, hfind]
  | some z =>
    have hone {f : Zone → Zone} (hf : f z = z.refreshed (s.usableHeads n)) :
        s.zones.modify n f = s.zones.modify n (Zone.refreshed (s.usableHeads n)) := Table.modify_of_find _ _ _ _ _ hfind hf
    by_cases hheads : s.usableHeads n = []
    · cases hsafe : z.failsafe with
      | true =>
        rw [refreshZone_of_failsafe hfind hheads hsafe]
        exact (Table.modify_of_find_fixed hfind (by simp [Zone.refreshed, hheads, hsafe])).symm
      | false =>
        rw [refreshZone_of_entering hfind hheads hsafe, post_eq]
        exact hone (by simp [Zone.refreshed, hheads, hsafe])
    · rw [refreshZone_of_heads hfind hheads]
      split
      · rw [post_eq]
        exact hone (by simp [Zone.refreshed, hheads])
      · exact hone (by simp [Zone.refreshed, hheads])

/-- What an evaluation may do to a zone: raise its stage and set its dwell, and nothing in FAILSAFE (R107). -/
def Zone.Evaluated (z z' : Zone) : Prop :=
  z' = { z with stage := z'.stage, dwell := z'.dwell } ∧ z.stage ≤ z'.stage ∧ (z.failsafe = true → z' = z)

theorem evaluateZone_find {n : Nat} {z : Zone} (hfind : s.zones.find n = some z) :
    ∃ z', (evaluateZone n s).zones.find n = some z' ∧ z.Evaluated z' := by
  cases hsafe : z.failsafe with
  | true => exact ⟨z, by rw [evaluateZone_of_failsafe hfind hsafe, hfind], rfl, le_rfl, fun _ => rfl⟩
  | false =>
    have hrun {z' : Zone} : z.failsafe = true → z' = z := fun h => absurd (hsafe.symm.trans h) Bool.false_ne_true
    cases hrise : highestEntry s.stageTable z with
    | none =>
      rw [evaluateZone_of_no_rise hfind hsafe hrise]
      exact ⟨{ z with dwell := z.dwellAfter s.stageTable s.deckTime }, by simp [hfind], rfl, le_rfl, hrun⟩
    | some k =>
      rw [evaluateZone_of_rise hfind hsafe hrise, changeStage_zones]
      exact ⟨{ z with stage := k, dwell := none }, by simp [hfind], rfl, (highestEntry_above hrise).le, hrun⟩

theorem evaluateZone_find_other {n k : Nat} (h : k ≠ n) (s : State) :
    (evaluateZone n s).zones.find k = s.zones.find k := by
  cases hfind : s.zones.find n with
  | none => simp [evaluateZone, hfind]
  | some z =>
    cases hsafe : z.failsafe with
    | true => rw [evaluateZone_of_failsafe hfind hsafe]
    | false =>
      cases hrise : highestEntry s.stageTable z with
      | none =>
        rw [evaluateZone_of_no_rise hfind hsafe hrise]
        exact (Table.find_modify ..).trans (if_neg h)
      | some j =>
        rw [evaluateZone_of_rise hfind hsafe hrise, changeStage_zones]
        simp [h]

theorem usableHeads_of_heads (h : t.heads = s.heads) (n : Nat) : t.usableHeads n = s.usableHeads n := by
  simp only [usableHeads_eq, h]

/-- Every zone of a COMMIT, brought up to date with its heads and evaluated (R121). -/
theorem commitAir_find (hrising : s.zones.rising = true) {n : Nat} {z : Zone} (hfind : s.zones.find n = some z) :
    ∃ z', (commitAir s).zones.find n = some z' ∧ (z.refreshed (s.usableHeads n)).Evaluated z' := by
  obtain ⟨u, hu, hview, hlast⟩ := forEach_numbers_find (table := State.zones) (parts := [.zones])
    (turn := fun n s => evaluateZone n (refreshZone n s))
    (fun n s => (refreshZone_within n s).trans (evaluateZone_zones_within n _))
    (fun m k s hk => by
      rw [evaluateZone_find_other hk, refreshZone_zones]
      exact (Table.find_modify ..).trans (if_neg hk))
    ((Table.rising_iff_pairwise _).1 hrising) (Table.mem_numbers_of_find hfind) s
  have hrefreshed : (refreshZone n u).zones.find n = some (z.refreshed (s.usableHeads n)) := by
    rw [refreshZone_zones, Table.find_modify, if_pos rfl, hview, hfind, usableHeads_of_heads (hu.heads_eq (by decide))]
    rfl
  obtain ⟨z', hz', hevaluated⟩ := evaluateZone_find hrefreshed
  exact ⟨z', hlast.trans hz', hevaluated⟩

/-! ### The records one by one -/

theorem BayCfg.sameDetector_iff {x y : BayCfg} :
    x.sameDetector y = true ↔
      x.node = y.node ∧ x.channel = y.channel ∧ x.ref0 = y.ref0 ∧ x.ref1 = y.ref1 ∧ x.ref2 = y.ref2 ∧ x.ref3 = y.ref3 := by
  simp [BayCfg.sameDetector, and_assoc]

theorem RampPair.fresh_eq (pins : Pins) (n : Nat) (c : PairCfg) :
    RampPair.fresh pins n c =
      { cfg := c, filteredA := pins.rampA.getLsbD n, filteredB := pins.rampB.getLsbD n, position := 0,
        spoiled := pins.rampA.getLsbD n || pins.rampB.getLsbD n, settle := none } := by
  unfold RampPair.fresh
  cases pins.rampA.getLsbD n <;> cases pins.rampB.getLsbD n <;> rfl

theorem commitLevel_eq (s : State) (n : Nat) (c : LevelCfg) :
    commitLevel s n c =
      { cfg := c
        count := ((s.levels.find n).map (·.count)).getD 0
        ring := ((s.levels.find n).map (·.ring)).getD [0, 0, 0, 0, 0]
        pending := ((s.levels.find n).map (·.pending)).getD false
        drift := ((s.levels.find n).map (·.drift)).getD .idle } := by
  unfold commitLevel
  cases s.levels.find n <;> rfl

theorem commitZone_eq (s : State) (n : Nat) (c : ZoneCfg) :
    commitZone s n c = { (s.zones.find n).getD (Zone.fresh c) with cfg := c } := by
  unfold commitZone
  cases s.zones.find n <;> rfl

theorem committed_presentCount (c : Configuration) (s : State) (n : Nat) :
    (committed c s).presentCount n = (mergeWorking c s).presentCount n := by
  refine presentCount_congr ((committed_within c s).bays_eq (by decide)) (rowLevel_congr ?_) n
  have hcfgs := congrArg (Table.mapRecords fun _ (x : RowCfg) => x.level) (committed_rowCfgs c s)
  simpa only [Table.mapRecords_mapRecords] using hcfgs

/-- A level of a COMMIT, by the counts and the ramps as they then stand (R45). -/
theorem committed_level {c : Configuration} (hrising : c.levels.rising = true) {n : Nat} {x : LevelCfg}
    (hfind : c.levels.find n = some x) :
    (committed c s).levels.find n =
      some ((commitLevel s n x).censusCommitted s.deckTime ((committed c s).presentCount n) (rampsIdle (committed c s) n)) := by
  have htotals := commitTotals_within s (mergeWorking c s)
  have hlevels : (commitTotals s (mergeWorking c s)).levels = c.levels.mapRecords (commitLevel s) :=
    htotals.levels_eq (by decide)
  have hmerged : (commitTotals s (mergeWorking c s)).levels.find n = some (commitLevel s n x) := by
    rw [hlevels, Table.find_mapRecords, hfind]
    rfl
  have hrises : (commitTotals s (mergeWorking c s)).levels.rising = true := by
    rw [hlevels, Table.rising_congr _ _ (Table.numbers_mapRecords ..), hrising]
  rw [(committed_loads_within c s).levels_eq (by decide), (commitLoads_within c s).levels_eq (by decide), commitRecords,
    (commitAir_zones_within _).levels_eq (by decide), commitCensus_find hrises hmerged, committed_presentCount,
    presentCount_of_within htotals (by decide) (by decide), rampsIdle_of_pairs (htotals.pairs_eq (by decide)),
    rampsIdle_of_pairs ((committed_within c s).pairs_eq (by decide)), htotals.deckTime]
  rfl

theorem committed_zone {c : Configuration} (hrising : c.zones.rising = true) {n : Nat} {x : ZoneCfg}
    (hfind : c.zones.find n = some x) :
    ∃ z', (committed c s).zones.find n = some z' ∧
      ((commitZone s n x).refreshed ((committed c s).usableHeads n)).Evaluated z' := by
  have hcensus : Within [.levels] (mergeWorking c s) (commitCensus (commitTotals s (mergeWorking c s))) :=
    ((commitTotals_within ..).mono (by decide)).trans (commitCensus_within _)
  have hzones : (commitCensus (commitTotals s (mergeWorking c s))).zones = c.zones.mapRecords (commitZone s) :=
    hcensus.zones_eq (by decide)
  have hmerged : (commitCensus (commitTotals s (mergeWorking c s))).zones.find n = some (commitZone s n x) := by
    rw [hzones, Table.find_mapRecords, hfind]
    rfl
  have hrises : (commitCensus (commitTotals s (mergeWorking c s))).zones.rising = true := by
    rw [hzones, Table.rising_congr _ _ (Table.numbers_mapRecords ..), hrising]
  have hheads : (committed c s).usableHeads n = (commitCensus (commitTotals s (mergeWorking c s))).usableHeads n :=
    usableHeads_of_heads (((committed_within c s).heads_eq (by decide)).trans (hcensus.heads_eq (by decide)).symm) n
  rw [(committed_loads_within c s).zones_eq (by decide), (commitLoads_within c s).zones_eq (by decide), hheads]
  exact commitAir_find hrises hmerged

theorem Level.censusCommitted_cfg_ring (now : Time) (present : Nat) (idle : Bool) (l : Level) :
    (l.censusCommitted now present idle).cfg = l.cfg ∧ (l.censusCommitted now present idle).ring = l.ring := by
  obtain ⟨hcfg, -, hring, -⟩ := l.agrees_driftCommitted now present
  unfold Level.censusCommitted
  split
  · exact ⟨rfl, rfl⟩
  · exact ⟨hcfg, hring⟩

theorem Level.censusCommitted_of_busy (now : Time) (present : Nat) (l : Level) :
    (l.censusCommitted now present false).count = l.count ∧ (l.censusCommitted now present false).pending = true ∧
      (distance l.count present ≤ l.cfg.driftLimit → (l.censusCommitted now present false).drift = .idle) ∧
      (l.cfg.driftLimit < distance l.count present →
        (l.censusCommitted now present false).drift = l.drift.committed now l.cfg) :=
  ⟨(l.agrees_driftCommitted now present).2.1, rfl, Level.driftCommitted_within, Level.driftCommitted_beyond⟩

/-- A level of a COMMIT field by field, whether its ramps are idle or not (R45). -/
theorem Level.censusCommitted_fields {now : Time} {present : Nat} {idle : Bool} {Idle : Prop} (hidle : idle = true ↔ Idle)
    (l : Level) :
    (l.censusCommitted now present idle).cfg = l.cfg ∧ (l.censusCommitted now present idle).ring = l.ring ∧
      (Idle → (l.censusCommitted now present idle).count = present ∧ (l.censusCommitted now present idle).pending = false ∧
        (l.censusCommitted now present idle).drift = .idle) ∧
      (¬ Idle → (l.censusCommitted now present idle).count = l.count ∧ (l.censusCommitted now present idle).pending = true ∧
        (distance l.count present ≤ l.cfg.driftLimit → (l.censusCommitted now present idle).drift = .idle) ∧
        (l.cfg.driftLimit < distance l.count present →
          (l.censusCommitted now present idle).drift = l.drift.committed now l.cfg)) := by
  obtain ⟨hcfg, hring⟩ := Level.censusCommitted_cfg_ring now present idle l
  refine ⟨hcfg, hring, fun h => ?_, fun h => ?_⟩
  · rw [hidle.2 h]
    exact ⟨rfl, rfl, rfl⟩
  · rw [Bool.eq_false_iff.2 fun hramps => h (hidle.1 hramps)]
    exact Level.censusCommitted_of_busy now present l

theorem Zone.refreshed_of_none (z : Zone) :
    z.refreshed [] = { z with failsafe := true, dwell := if z.failsafe then z.dwell else none } := by
  unfold Zone.refreshed
  cases hsafe : z.failsafe with
  | true => simp [← hsafe]
  | false => simp

theorem Zone.refreshed_of_some {heads : List Head} (h : heads ≠ []) (z : Zone) :
    z.refreshed heads =
      { z with failsafe := false, coInst := (instValues heads).1, no2Inst := (instValues heads).2 } := if_neg h

/-- What a zone brought up to date and evaluated keeps, and what it takes from its heads (R102, R107, R111, R112). -/
theorem Zone.evaluated_fields {heads : List Head} {z z' : Zone} (h : (z.refreshed heads).Evaluated z') :
    z'.cfg = z.cfg ∧ z'.coSum = z.coSum ∧ z'.no2Sum = z.no2Sum ∧ z'.samples = z.samples ∧ z'.coRing = z.coRing ∧
      z'.no2Ring = z.no2Ring ∧ z'.override = z.override ∧ z'.pattern = z.pattern ∧
      (heads = [] → z'.failsafe = true ∧ z'.stage = z.stage ∧ z'.coInst = z.coInst ∧ z'.no2Inst = z.no2Inst) ∧
      (heads ≠ [] → z'.failsafe = false ∧ z.stage ≤ z'.stage ∧ z'.coInst = (instValues heads).1 ∧
        z'.no2Inst = (instValues heads).2) := by
  obtain ⟨hsame, hrises, hsafe⟩ := h
  by_cases hheads : heads = []
  · subst hheads
    rw [Zone.refreshed_of_none] at hsafe
    rw [hsafe rfl]
    exact ⟨rfl, rfl, rfl, rfl, rfl, rfl, rfl, rfl, fun _ => ⟨rfl, rfl, rfl, rfl⟩, fun hne => absurd rfl hne⟩
  · rw [Zone.refreshed_of_some hheads] at hsame hrises
    rw [hsame]
    exact ⟨rfl, rfl, rfl, rfl, rfl, rfl, rfl, rfl, fun hnil => absurd hnil hheads, fun _ => ⟨rfl, hrises, rfl, rfl⟩⟩

/-- Settles O20: each kind of record by what COMMIT makes of it. -/
theorem commitKeepsOrResetsRecords : Obligations.CommitKeepsOrResetsRecords := by
  unfold Obligations.CommitKeepsOrResetsRecords
  intro s tag hready hrun hwriting htables hpasses c
  have hposted : Within [] (committed c s) (post .modeChanged 1 0 1 (committed c s)) := post_within ..
  have hwithin := (committed_within c s).trans (hposted.mono (by decide))
  obtain ⟨-, -, hlevels, -, -, hzones, -⟩ := Configuration.rising_iff.1 (workingCopy_rising htables)
  refine ⟨_, exec_commit_of_passes hready hrun hwriting hpasses, fun n => ?bays, fun n => ?pairs, fun n x hx => ?levels,
    fun n => ?heads, fun n x hx => ?zones⟩
  case bays =>
    rw [hwithin.bays_eq (by decide)]
    refine (Table.find_mapRecords ..).trans (congrArg (Option.map · _) (funext fun x => ?_))
    unfold commitBay
    cases s.bays.find n with
    | none => rfl
    | some b => exact if_congr BayCfg.sameDetector_iff rfl rfl
  case pairs =>
    rw [hwithin.pairs_eq (by decide)]
    refine (Table.find_mapRecords ..).trans (congrArg (Option.map · _) (funext fun x => ?_))
    unfold commitPair
    cases s.pairs.find n with
    | none => exact RampPair.fresh_eq ..
    | some q => exact congrArg (fun y => if q.cfg = x then q else y) (RampPair.fresh_eq ..)
  case heads =>
    rw [hwithin.heads_eq (by decide)]
    refine (Table.find_mapRecords ..).trans (congrArg (Option.map · _) (funext fun x => ?_))
    unfold commitHead
    cases s.heads.find n <;> rfl
  case levels =>
    have hlevel := committed_level (s := s) hlevels hx
    rw [commitLevel_eq] at hlevel
    refine ⟨_, (congrArg (Table.find · n) (hposted.levels_eq (by decide))).trans hlevel, ?_⟩
    have hidle := rampsIdle_iff (s := post .modeChanged 1 0 1 (committed c s)) (level := n)
    rw [rampsIdle_of_pairs (hposted.pairs_eq (by decide))] at hidle
    rw [post_presentCount]
    generalize (committed s.workingCopy s).presentCount n = present
    generalize rampsIdle (committed s.workingCopy s) n = idle at hidle ⊢
    obtain ⟨hcfg, hring, hdone, hbusy⟩ := Level.censusCommitted_fields (now := s.deckTime) (present := present) hidle
      { cfg := x, count := ((s.levels.find n).map (·.count)).getD 0
        ring := ((s.levels.find n).map (·.ring)).getD [0, 0, 0, 0, 0]
        pending := ((s.levels.find n).map (·.pending)).getD false
        drift := ((s.levels.find n).map (·.drift)).getD .idle }
    refine ⟨hcfg, hring, hdone, fun h => ?_⟩
    obtain ⟨hcount, hpending, hnear, hfar⟩ := hbusy h
    refine ⟨hcount, hpending, hnear, fun hlimit => (hfar hlimit).trans ?_⟩
    cases ((s.levels.find n).map (·.drift)).getD .idle <;> rfl
  case zones =>
    obtain ⟨z', hz', hevaluated⟩ := committed_zone (s := s) hzones hx
    have hheads : (post .modeChanged 1 0 1 (committed c s)).usableHeads n = (committed c s).usableHeads n :=
      usableHeads_of_heads (hposted.heads_eq (by decide)) n
    refine ⟨z', (congrArg (Table.find · n) (hposted.zones_eq (by decide))).trans hz', ?_⟩
    rw [hheads]
    rw [commitZone_eq] at hevaluated
    generalize (committed s.workingCopy s).usableHeads n = heads at hevaluated ⊢
    obtain ⟨hcfg, hco, hno2, hsamples, hcoRing, hno2Ring, hoverride, hpattern, hnone, hsome⟩ := Zone.evaluated_fields hevaluated
    refine ⟨hcfg, hco, hno2, hsamples, hcoRing, hno2Ring, hoverride, hpattern, hnone, fun hne => ?_⟩
    obtain ⟨hsafe, hstage, hcoInst, hno2Inst⟩ := hsome hne
    rw [hcoInst, hno2Inst]
    exact ⟨hsafe, hstage, largest_maxOf hne _, largest_maxOf hne _⟩

end Sys2Proof.Machine
end

section
/-! What a computation that hands every grant makes of each load (sections 7.3, 7.4 and 7.6). -/

namespace Sys2Proof.Machine
variable {s t u : State}

/-! ### A load stands once in the lists of loads -/

theorem loads_nodup {a b c : List Nat} (ha : a.Nodup) (hb : b.Nodup) (hc : c.Nodup) (hac : ∀ x ∈ a, x ∉ c) :
    (a.map Load.fan ++ (b.map Load.row ++ c.map Load.fan)).Nodup := by
  have hfan : Function.Injective Load.fan := fun _ _ h => Load.fan.inj h
  have hrow : Function.Injective Load.row := fun _ _ h => Load.row.inj h
  simp only [List.nodup_append, List.nodup_map_iff hfan, List.nodup_map_iff hrow, List.mem_append, List.mem_map]
  refine ⟨ha, ⟨hb, hc, ?_⟩, ?_⟩
  · rintro _ ⟨x, -, rfl⟩ _ ⟨y, -, rfl⟩
    exact Load.noConfusion
  · rintro _ ⟨x, hx, rfl⟩ _ (⟨y, -, rfl⟩ | ⟨y, hy, rfl⟩)
    · exact Load.noConfusion
    · intro heq
      cases heq
      exact hac x hx hy

theorem Table.nodup_numbers {α : Type} {t : Table α} (h : t.rising = true) : t.numbers.Nodup :=
  ((Table.rising_iff_pairwise t).1 h).imp fun hlt => Nat.ne_of_lt hlt

theorem Table.nodup_numbers_filter {α : Type} {t : Table α} (h : t.rising = true) (keep : Nat × α → Bool) :
    ((t.filter keep).map (·.1)).Nodup :=
  (Table.nodup_numbers h).sublist (List.filter_sublist.map _)

/-- Two selections of a table that no record is in both of have no number in common. -/
theorem Table.disjoint_numbers {α : Type} {t : Table α} (h : t.rising = true) {p q : Nat × α → Bool}
    (hpq : ∀ x, p x = true → q x = false) : ∀ n ∈ (t.filter p).map (·.1), n ∉ (t.filter q).map (·.1) := by
  intro n hp hq
  obtain ⟨⟨i, x⟩, hx, rfl⟩ := List.mem_map.1 hp
  obtain ⟨⟨j, y⟩, hy, rfl⟩ := List.mem_map.1 hq
  obtain ⟨hx, hpx⟩ := List.mem_filter.1 hx
  obtain ⟨hy, hqy⟩ := List.mem_filter.1 hy
  have hfind := (Table.find_eq_some_iff t h _ _).2 hx
  rw [(Table.find_eq_some_iff t h _ _).2 hy] at hfind
  cases hfind
  exact Bool.false_ne_true ((hpq _ hpx).symm.trans hqy)

theorem grantsOf_nodup (hfans : s.fans.rising = true) (hrows : s.rows.rising = true) (d : Division) :
    ((grantsOf s d).map (·.1)).Nodup := by
  have hloads : s.fanLoads.rising = true := by
    rw [Table.rising_iff_pairwise] at hfans ⊢
    exact hfans.sublist (List.filter_sublist.map _)
  have hnodup := loads_nodup (Table.nodup_numbers_filter hloads fun p => decide (p.2.cls = 1)) (Table.nodup_numbers hrows)
    (Table.nodup_numbers_filter hloads fun p => decide (p.2.cls = 3))
    (Table.disjoint_numbers hloads fun x hx => by simp_all)
  simpa [grantsOf, State.classFans, Table.numbers, Function.comp_def] using hnodup

theorem heldList_nodup (hfans : s.fans.rising = true) (hrows : s.rows.rising = true) : (heldList s).Nodup := by
  have hnodup := loads_nodup (Table.nodup_numbers_filter hfans fun p => p.2.rampHeld && decide (p.2.cls = 1))
    (Table.nodup_numbers_filter hrows fun p => decide (p.2.step = .riseHeld))
    (Table.nodup_numbers_filter hfans fun p => p.2.rampHeld && decide (p.2.cls = 3))
    (Table.disjoint_numbers hfans fun x hx => by simp_all)
  simpa [heldList, heldFans, heldRows, Function.comp_def] using hnodup

/-! ### What a grant makes of a fan -/

/-- A fan before its grant in a part that starts: not held before a step, and not ACCELERATING. -/
def Fan.Quiet (f : Fan) : Prop := f.rampHeld = false ∧ f.state ≠ .accelerating

/-- What a fan becomes by its grant and the retry of its start step: a start step taken or held where one is due, and else what
the grant makes of it (R129, R130, R157). -/
def Fan.Granted (now : Time) (g : Nat) (f f' : Fan) : Prop :=
  (f.startsOn g → f' = { f with granted := g, rampHeld := true, timer := none } ∨
    f' = ({ f with granted := g } : Fan).afterRise now f.cfg.start) ∧
  (¬ f.startsOn g → f' = f.onGrant now g)

section
variable {ch k g : Nat} {f f' x : Fan}

theorem fanRise_find {speed : Nat} (hfind : s.fans.find ch = some x) :
    (fanRise ch speed s).fans.find ch = some { x with rampHeld := true, timer := none } ∨
      (fanRise ch speed s).fans.find ch = some (x.afterRise s.deckTime speed) := by
  cases hfits : headroom s x.draw (x.cfg.power speed) x.floorDraw with
  | true =>
    rw [fanRise_of_fits hfind hfits]
    exact .inr (modFan_find _ hfind)
  | false =>
    rw [fanRise_of_not_fits hfind hfits]
    exact .inl (modFan_find _ hfind)

theorem modFan_find_other (h : k ≠ ch) (m : Fan → Fan) : (s.modFan k m).fans.find ch = s.fans.find ch :=
  (Table.find_modify ..).trans (if_neg h.symm)

theorem fanRise_find_other {speed : Nat} (h : k ≠ ch) : (fanRise k speed s).fans.find ch = s.fans.find ch := by
  unfold fanRise
  split
  · rfl
  · split
    · exact modFan_find_other h _
    · exact modFan_find_other h _

theorem grantFan_find_other (h : k ≠ ch) : (grantFan k g s).fans.find ch = s.fans.find ch := by
  cases hfind : s.fans.find k with
  | none => simp [grantFan, hfind]
  | some f =>
    by_cases hstart : f.startsOn g
    · rw [grantFan_of_start hfind hstart, fanRise_find_other h]
      exact modFan_find_other h _
    · rw [grantFan_of_no_start hfind hstart]
      exact modFan_find_other h _

theorem grantFan_find (hfind : s.fans.find ch = some f) :
    ∃ f', (grantFan ch g s).fans.find ch = some f' ∧ f.Granted s.deckTime g f' := by
  by_cases hstart : f.startsOn g
  · rw [grantFan_of_start hfind hstart]
    rcases fanRise_find (speed := f.cfg.start) (modFan_find (fun _ => { f with granted := g }) hfind) with h | h
    · exact ⟨_, h, fun _ => .inl rfl, fun hno => absurd hstart hno⟩
    · exact ⟨_, h, fun _ => .inr rfl, fun hno => absurd hstart hno⟩
  · rw [grantFan_of_no_start hfind hstart]
    exact ⟨_, modFan_find _ hfind, fun h => absurd h hstart, fun _ => rfl⟩

theorem Fan.onGrant_rampHeld {now : Time} (hquiet : f.Quiet) : (f.onGrant now g).rampHeld = false := by
  obtain ⟨hheld, hstate⟩ := hquiet
  cases hst : f.state with
  | stopped =>
    simp only [Fan.onGrant, hst]
    split
    · exact hheld
    · rfl
  | accelerating => exact absurd hst hstate
  | steady =>
    simp only [Fan.onGrant, hst]
    split
    · exact hheld
    · split
      · exact hheld
      · rfl
  | decelerating =>
    simp only [Fan.onGrant, hst]
    split
    · exact hheld
    · split
      · rfl
      · exact hheld
  | reversingDown | reverseDwell | faulted | isolated | held => simpa [Fan.onGrant, hst] using hheld

theorem Fan.afterRise_rampHeld (now : Time) (speed : Nat) (f : Fan) : (f.afterRise now speed).rampHeld = false := by
  unfold Fan.afterRise
  split <;> rfl

/-- A fan still on the held-rise list after its grant is one held before its start step. -/
theorem Fan.Granted.held {now : Time} (h : f.Granted now g f') (hquiet : f.Quiet) (hheld : f'.rampHeld = true) :
    f.startsOn g ∧ f' = { f with granted := g, rampHeld := true, timer := none } := by
  by_cases hstart : f.startsOn g
  · refine ⟨hstart, (h.1 hstart).resolve_right fun hrisen => ?_⟩
    rw [hrisen, Fan.afterRise_rampHeld] at hheld
    exact Bool.false_ne_true hheld
  · rw [h.2 hstart, Fan.onGrant_rampHeld hquiet] at hheld
    exact absurd hheld Bool.false_ne_true

theorem retryLoad_find_other {l : Load} (h : l ≠ .fan ch) : (retryLoad l s).fans.find ch = s.fans.find ch := by
  cases l with
  | row n => exact congrArg (Table.find · ch) ((rowRise_within n s).fans_eq (by decide))
  | fan k =>
    have hk : k ≠ ch := fun heq => h (congrArg Load.fan heq)
    unfold retryLoad
    dsimp only
    split
    · split
      · unfold fanStart
        split
        · exact fanRise_find_other hk
        · rfl
      · split
        · unfold fanAccelerate
          split
          · exact fanRise_find_other hk
          · rfl
        · rfl
    · rfl

theorem rowRise_find_other {n m : Nat} (h : m ≠ n) : (rowRise m s).rows.find n = s.rows.find n := by
  unfold rowRise
  split
  · rfl
  · dsimp only
    split
    · exact (Table.find_modify ..).trans (if_neg h.symm)
    · exact (Table.find_modify ..).trans (if_neg h.symm)

theorem retryLoad_fan_within (ch : Nat) (s : State) : Within [.fans] s (retryLoad (.fan ch) s) := by
  unfold retryLoad
  dsimp only
  split
  · split
    · exact fanStart_within ..
    · split
      · exact fanAccelerate_within ..
      · exact .refl _ s
  · exact .refl _ s

/-- A fan held before its start step tries it again (R157). -/
theorem retryLoad_find {now : Time} (hnow : s.deckTime = now) (hstart : f.startsOn g)
    (hfind : s.fans.find ch = some { f with granted := g, rampHeld := true, timer := none }) :
    ∃ f', (retryLoad (.fan ch) s).fans.find ch = some f' ∧ f.Granted now g f' := by
  have hretry : retryLoad (.fan ch) s = fanRise ch f.cfg.start s := by
    simp [retryLoad, hfind, hstart.1, fanStart]
  rw [hretry]
  rcases fanRise_find (speed := f.cfg.start) hfind with h | h
  · exact ⟨_, h, fun _ => .inl rfl, fun hno => absurd hstart hno⟩
  · refine ⟨_, h, fun _ => .inr ?_, fun hno => absurd hstart hno⟩
    rw [hnow]
    rfl

end

/-! ### What a computation makes of a fan -/

/-- The state of a computation once the grants are handed, before the retry (R154). -/
def granted (s : State) : State := forEach (grantsOf s (divide s)) (handGrant true) (recordDivision (divide s) s)

theorem compute_true_eq (s : State) : compute true s = judgeShort (retryHeld (granted s)) := rfl

theorem granted_stands (s : State) : LoadsStand s (granted s) :=
  (recordDivision_stands _ s).trans (forEach_stands _ (handGrant_stands true) _ _)

theorem LoadsFit.rises (h : LoadsFit s = true) : s.fans.rising = true ∧ s.rows.rising = true := by
  simp only [LoadsFit, Bool.and_eq_true] at h
  exact h.1

section
variable {ch n : Nat} {f : Fan} {r : Row} (hfit : LoadsFit s = true)
include hfit

/-- The grants are handed one to a load. -/
theorem granted_once (l : Load) :
    (grantsOf s (divide s)).Pairwise fun x y => x.1 = l → ¬ y.1 = l := by
  obtain ⟨hfans, hrows⟩ := LoadsFit.rises hfit
  have hnodup := grantsOf_nodup hfans hrows (divide s)
  rw [List.nodup_iff_pairwise_ne, List.pairwise_map] at hnodup
  exact hnodup.imp fun hne hx hy => hne (hx.trans hy.symm)

theorem mem_grantsOf_fan (hfind : s.fans.find ch = some f) (hload : f.isLoad = true) :
    (.fan ch, (divide s).fanGrant f) ∈ grantsOf s (divide s) := by
  have hin : (ch, f) ∈ s.fanLoads := List.mem_filter.2 ⟨Table.find_mem _ _ _ hfind, hload⟩
  have hclass {c : Nat} (hc : f.cls = c) : (ch, f) ∈ s.classFans c := List.mem_filter.2 ⟨hin, decide_eq_true hc⟩
  unfold grantsOf
  rcases LoadsFit.cls hfit (Table.find_mem _ _ _ hfind) with hc | hc
  · exact List.mem_append_left _ (List.mem_map.2 ⟨_, hclass hc, rfl⟩)
  · exact List.mem_append_right _ (List.mem_append_right _ (List.mem_map.2 ⟨_, hclass hc, rfl⟩))

omit hfit in
theorem mem_grantsOf_row (hfind : s.rows.find n = some r) :
    (.row n, (divide s).rowGrant r) ∈ grantsOf s (divide s) :=
  List.mem_append_right _ (List.mem_append_left _ (List.mem_map.2 ⟨_, Table.find_mem _ _ _ hfind, rfl⟩))

theorem granted_fan (hfind : s.fans.find ch = some f) (hload : f.isLoad = true) :
    ∃ f', (granted s).fans.find ch = some f' ∧ f.Granted s.deckTime ((divide s).fanGrant f) f' := by
  obtain ⟨hfans, hrows⟩ := LoadsFit.rises hfit
  have hother (x : Load × Nat) (u : State) (hx : ¬ x.1 = .fan ch) : (handGrant true x u).fans.find ch = u.fans.find ch := by
    obtain ⟨l, g⟩ := x
    cases l with
    | fan k => exact grantFan_find_other fun heq => hx (congrArg Load.fan heq)
    | row k => exact congrArg (Table.find · ch) ((grantRow_within k g u).fans_eq (by decide))
  have hmem := mem_grantsOf_fan hfit hfind hload
  rcases forEach_once (R := Within [.rows, .fans]) (Within.refl _) (fun _ _ _ => Within.trans) (handGrant_within true)
    (view := fun u => u.fans.find ch) (mine := fun x => x.1 = .fan ch) hother (granted_once hfit (.fan ch))
    (recordDivision (divide s) s) with ⟨hnone, -⟩ | ⟨⟨l, g⟩, hx, heq, u, hu, hview, hlast⟩
  · exact absurd rfl (hnone _ hmem)
  · obtain rfl : l = .fan ch := heq
    have hgrant : g = (divide s).fanGrant f := by
      simpa [Division.grantOf, hfind] using grantsOf_mem hfans hrows hx
    obtain ⟨f', hf', hout⟩ := grantFan_find (g := g) (hview.trans hfind)
    rw [hu.deckTime, hgrant] at hout
    exact ⟨f', hlast.trans hf', hout⟩

theorem granted_fan_out (hfind : s.fans.find ch = some f) (hout : f.isLoad = false) :
    (granted s).fans.find ch = some f := by
  obtain ⟨hfans, -⟩ := LoadsFit.rises hfit
  have hother (x : Load × Nat) (u : State) (hx : ¬ x.1 = .fan ch) : (handGrant true x u).fans.find ch = u.fans.find ch := by
    obtain ⟨l, g⟩ := x
    cases l with
    | fan k => exact grantFan_find_other fun heq => hx (congrArg Load.fan heq)
    | row k => exact congrArg (Table.find · ch) ((grantRow_within k g u).fans_eq (by decide))
  have hnot {cls : Nat} {p : Nat × Fan} (hp : p ∈ s.classFans cls) : p.1 ≠ ch := fun heq => by
    obtain ⟨hmem, hload⟩ := List.mem_filter.1 (List.mem_filter.1 hp).1
    have hsame := (Table.find_eq_some_iff _ hfans _ _).2 hmem
    rw [heq, hfind] at hsame
    rw [Option.some.inj hsame, hload] at hout
    exact Bool.false_ne_true hout.symm
  rcases forEach_once (R := Within [.rows, .fans]) (Within.refl _) (fun _ _ _ => Within.trans) (handGrant_within true)
    (view := fun u => u.fans.find ch) (mine := fun x => x.1 = .fan ch) hother (granted_once hfit (.fan ch))
    (recordDivision (divide s) s) with ⟨-, hsame⟩ | ⟨x, hx, heq, -⟩
  · exact hsame.trans hfind
  · exfalso
    unfold grantsOf at hx
    simp only [List.mem_append, List.mem_map] at hx
    rcases hx with ⟨p, hp, rfl⟩ | ⟨p, -, rfl⟩ | ⟨p, hp, rfl⟩
    · exact hnot hp (Load.fan.inj heq)
    · exact Load.noConfusion heq
    · exact hnot hp (Load.fan.inj heq)

/-- Every row is set by the comparison of its grant with its commanded level (R79). -/
theorem granted_row (hfind : s.rows.find n = some r) :
    (granted s).rows.find n = some (r.actOnGrant s.deckTime s.fade ((divide s).rowGrant r)) := by
  obtain ⟨hfans, hrows⟩ := LoadsFit.rises hfit
  have hother (x : Load × Nat) (u : State) (hx : ¬ x.1 = .row n) : (handGrant true x u).rows.find n = u.rows.find n := by
    obtain ⟨l, g⟩ := x
    cases l with
    | fan k => exact congrArg (Table.find · n) ((grantFan_within k g u).rows_eq (by decide))
    | row k => exact (Table.find_modify ..).trans (if_neg fun heq => hx (congrArg Load.row heq.symm))
  rcases forEach_once (R := Within [.rows, .fans]) (Within.refl _) (fun _ _ _ => Within.trans) (handGrant_within true)
    (view := fun u => u.rows.find n) (mine := fun x => x.1 = .row n) hother (granted_once hfit (.row n))
    (recordDivision (divide s) s) with ⟨hnone, -⟩ | ⟨⟨l, g⟩, hx, heq, u, hu, hview, hlast⟩
  · exact absurd rfl (hnone _ (mem_grantsOf_row hfind))
  · obtain rfl : l = .row n := heq
    have hgrant : g = (divide s).rowGrant r := by
      simpa [Division.grantOf, hfind] using grantsOf_mem hfans hrows hx
    have hturn : (handGrant true (.row n, g) u).rows.find n = (u.rows.find n).map fun r => r.actOnGrant u.deckTime u.fade g :=
      (Table.find_modify ..).trans (if_pos rfl)
    refine hlast.trans ?_
    rw [hturn, hview, hu.deckTime, hu.fade_eq (by decide), hgrant]
    exact congrArg (Option.map _) hfind

end

/-! ### The retry at the end of a computation -/

theorem heldList_once (hfans : s.fans.rising = true) (hrows : s.rows.rising = true) (l : Load) :
    (heldList s).Pairwise fun x y => x = l → ¬ y = l :=
  (List.nodup_iff_pairwise_ne.1 (heldList_nodup hfans hrows)).imp fun hne hx hy => hne (hx.trans hy.symm)

theorem mem_heldList_fan {ch : Nat} (h : .fan ch ∈ heldList s) : ∃ p ∈ s.fans, p.1 = ch ∧ p.2.rampHeld = true := by
  simp only [heldList, heldFans, heldRows, List.mem_append, List.mem_map, List.mem_filter, Bool.and_eq_true] at h
  rcases h with (⟨p, ⟨hp, hheld, -⟩, heq⟩ | ⟨p, -, heq⟩) | ⟨p, ⟨hp, hheld, -⟩, heq⟩
  · exact ⟨p, hp, Load.fan.inj heq, hheld⟩
  · exact Load.noConfusion heq
  · exact ⟨p, hp, Load.fan.inj heq, hheld⟩

theorem mem_heldList_row {n : Nat} (h : .row n ∈ heldList s) : ∃ p ∈ s.rows, p.1 = n ∧ p.2.step = .riseHeld := by
  simp only [heldList, heldFans, heldRows, List.mem_append, List.mem_map, List.mem_filter, decide_eq_true_eq] at h
  rcases h with (⟨p, -, heq⟩ | ⟨p, ⟨hp, hheld⟩, heq⟩) | ⟨p, -, heq⟩
  · exact Load.noConfusion heq
  · exact ⟨p, hp, Load.row.inj heq, hheld⟩
  · exact Load.noConfusion heq

section
variable (hfans : s.fans.rising = true) (hrows : s.rows.rising = true)
include hfans hrows

/-- A fan not held before a step is not retried. -/
theorem retryHeld_fan_free {ch : Nat} {f : Fan} (hfind : s.fans.find ch = some f) (hfree : f.rampHeld = false) :
    (retryHeld s).fans.find ch = some f := by
  rcases forEach_once (R := Within [.rows, .fans]) (Within.refl _) (fun _ _ _ => Within.trans) retryLoad_within
    (view := fun u => u.fans.find ch) (mine := (· = .fan ch)) (fun _ _ hx => retryLoad_find_other hx)
    (heldList_once hfans hrows (.fan ch)) s with ⟨-, hsame⟩ | ⟨x, hx, rfl, -⟩
  · exact hsame.trans hfind
  · obtain ⟨p, hp, rfl, hheld⟩ := mem_heldList_fan hx
    rw [(Table.find_eq_some_iff _ hfans _ _).2 hp] at hfind
    cases hfind
    exact absurd (hfree.symm.trans hheld) Bool.false_ne_true

theorem retryHeld_fan_held {ch g : Nat} {f : Fan} (hstart : f.startsOn g)
    (hfind : s.fans.find ch = some { f with granted := g, rampHeld := true, timer := none }) :
    ∃ f', (retryHeld s).fans.find ch = some f' ∧ f.Granted s.deckTime g f' := by
  rcases forEach_once (R := Within [.rows, .fans]) (Within.refl _) (fun _ _ _ => Within.trans) retryLoad_within
    (view := fun u => u.fans.find ch) (mine := (· = .fan ch)) (fun _ _ hx => retryLoad_find_other hx)
    (heldList_once hfans hrows (.fan ch)) s with ⟨-, hsame⟩ | ⟨x, -, rfl, u, hu, hview, hlast⟩
  · exact ⟨_, hsame.trans hfind, fun _ => .inl rfl, fun hno => absurd hstart hno⟩
  · obtain ⟨f', hf', hout⟩ := retryLoad_find hu.deckTime hstart (hview.trans hfind)
    exact ⟨f', hlast.trans hf', hout⟩

/-- A row that holds no rise is not retried. -/
theorem retryHeld_row_free {n : Nat} {r : Row} (hfind : s.rows.find n = some r) (hfree : r.step ≠ .riseHeld) :
    (retryHeld s).rows.find n = some r := by
  have hother (l : Load) (u : State) (hl : ¬ l = .row n) : (retryLoad l u).rows.find n = u.rows.find n := by
    cases l with
    | row k => exact rowRise_find_other fun heq => hl (congrArg Load.row heq)
    | fan ch => exact congrArg (Table.find · n) ((retryLoad_fan_within ch u).rows_eq (by decide))
  rcases forEach_once (R := Within [.rows, .fans]) (Within.refl _) (fun _ _ _ => Within.trans) retryLoad_within
    (view := fun u => u.rows.find n) (mine := (· = .row n)) hother
    (heldList_once hfans hrows (.row n)) s with ⟨-, hsame⟩ | ⟨x, hx, rfl, -⟩
  · exact hsame.trans hfind
  · obtain ⟨p, hp, rfl, hheld⟩ := mem_heldList_row hx
    rw [(Table.find_eq_some_iff _ hrows _ _).2 hp] at hfind
    cases hfind
    exact absurd hheld hfree

end

/-! ### What a computation makes of each load -/

section
variable {ch n : Nat} {f : Fan} {r : Row} (hfit : LoadsFit s = true)
include hfit

theorem granted_rises : (granted s).fans.rising = true ∧ (granted s).rows.rising = true :=
  LoadsFit.rises ((granted_stands s).loadsFit.trans hfit)

theorem compute_fan (hfind : s.fans.find ch = some f) (hload : f.isLoad = true) (hquiet : f.Quiet) :
    ∃ f', (compute true s).fans.find ch = some f' ∧ f.Granted s.deckTime ((divide s).fanGrant f) f' := by
  obtain ⟨hfans, hrows⟩ := granted_rises hfit
  rw [compute_true_eq, (judgeShort_within _).fans_eq (by decide)]
  obtain ⟨f', hf', hout⟩ := granted_fan hfit hfind hload
  cases hheld : f'.rampHeld with
  | false => exact ⟨f', retryHeld_fan_free hfans hrows hf' hheld, hout⟩
  | true =>
    obtain ⟨hstart, rfl⟩ := hout.held hquiet hheld
    have hretried := retryHeld_fan_held hfans hrows hstart hf'
    rwa [(granted_stands s).within.deckTime] at hretried

theorem compute_fan_out (hfind : s.fans.find ch = some f) (hout : f.isLoad = false) (hfree : f.rampHeld = false) :
    (compute true s).fans.find ch = some f := by
  obtain ⟨hfans, hrows⟩ := granted_rises hfit
  rw [compute_true_eq, (judgeShort_within _).fans_eq (by decide)]
  exact retryHeld_fan_free hfans hrows (granted_fan_out hfit hfind hout) hfree

/-- A FROZEN row leaves CONFIG by the comparison of its grant with its commanded level (R79, R92, R93). -/
theorem compute_row (hfind : s.rows.find n = some r) (hfrozen : r.step = .frozen) :
    (compute true s).rows.find n = some (r.actOnGrant s.deckTime s.fade ((divide s).rowGrant r)) := by
  obtain ⟨hfans, hrows⟩ := granted_rises hfit
  rw [compute_true_eq, (judgeShort_within _).rows_eq (by decide)]
  refine retryHeld_row_free hfans hrows (granted_row hfit hfind) ?_
  simp only [Row.actOnGrant, hfrozen]
  split
  · simp
  · split <;> simp

end

theorem Row.compared_actOnGrant (now : Time) (fade g : Nat) {r : Row} (hfrozen : r.step = .frozen) :
    Row.compared now fade (r.actOnGrant now fade g) := by
  refine ⟨fun hlt => ?_, fun heq => ?_, fun hlt => ?_⟩
  · have hlt : r.commanded < g := hlt
    simp [Row.actOnGrant, hlt, hfrozen, Time.plus]
  · have heq : r.commanded = g := heq
    simp [Row.actOnGrant, heq]
  · have hlt : g < r.commanded := hlt
    simp [Row.actOnGrant, hlt.not_gt, hlt.ne', hfrozen]

/-! ### What a fan's grant leaves it -/

section
variable {now : Time} {g : Nat} {f f' : Fan} (h : f.Granted now g f')
include h

theorem Fan.Granted.kept : f'.cfg = f.cfg ∧ f'.direction = f.direction ∧ f'.granted = g := by
  by_cases hstart : f.startsOn g
  · rcases h.1 hstart with rfl | rfl
    · exact ⟨rfl, rfl, rfl⟩
    · unfold Fan.afterRise
      split <;> exact ⟨rfl, rfl, rfl⟩
  · rw [h.2 hstart]
    have hstanding := f.standing_onGrant now g
    simp only [Fan.standing, Prod.mk.injEq] at hstanding
    exact ⟨hstanding.1, hstanding.2.2.2.2.1, f.onGrant_granted now g⟩

/-- A STOPPED fan at speed 0 has acted on its grant (R129, R130). -/
theorem Fan.Granted.startedFromRest (hstate : f.state = .stopped) (hzero : f.commanded = 0) (hfree : f.rampHeld = false) :
    Fan.startedFromRest now f' := by
  rcases Nat.eq_zero_or_pos g with hg | hg
  · have hno : ¬ f.startsOn g := fun hs => by have := hs.2.1; omega
    have hout : f' = { f with granted := 0, rampHeld := false } := by
      rw [h.2 hno, hg]
      simp [Fan.onGrant, hstate]
    rw [hout]
    exact ⟨fun _ => ⟨hstate, hzero, rfl⟩, fun hpos => absurd hpos (Nat.lt_irrefl 0)⟩
  · rcases h.1 ⟨hstate, hg, hfree⟩ with rfl | rfl
    · exact ⟨fun h0 => absurd h0 hg.ne', fun _ => .inl ⟨hstate, hzero, rfl⟩⟩
    · unfold Fan.afterRise
      by_cases hlt : f.cfg.start < g
      · rw [if_pos (show f.cfg.start < ({ f with granted := g } : Fan).granted from hlt)]
        exact ⟨fun h0 => absurd h0 hg.ne', fun _ => .inr ⟨rfl, rfl, by simp [hlt]⟩⟩
      · rw [if_neg (show ¬ f.cfg.start < ({ f with granted := g } : Fan).granted from hlt)]
        exact ⟨fun h0 => absurd h0 hg.ne', fun _ => .inr ⟨rfl, rfl, by simp [hlt]⟩⟩

/-- A fan that is reversing stores its grant alone (R129). -/
theorem Fan.Granted.of_reversing (hstate : f.state = .reversingDown ∨ f.state = .reverseDwell) :
    f' = { f with granted := g } := by
  have hno : ¬ f.startsOn g := fun hs => by simp [hs.1] at hstate
  rw [h.2 hno]
  rcases hstate with hst | hst <;> simp [Fan.onGrant, hst]

/-- A STEADY fan rises, stands or falls by its grant (R129). -/
theorem Fan.Granted.of_steady (hstate : f.state = .steady) (hfree : f.rampHeld = false) :
    f'.commanded = f.commanded ∧ f'.rampHeld = false ∧
      (f.commanded < g → f'.state = .accelerating ∧ f'.timer = some (Time.plus now f.cfg.accel)) ∧
      (f.commanded = g → f'.state = .steady) ∧
      (g < f.commanded → f'.state = .decelerating ∧ f'.timer = some (Time.plus now f.cfg.decel)) := by
  have hno : ¬ f.startsOn g := fun hs => by simp [hs.1] at hstate
  rw [h.2 hno]
  simp only [Fan.onGrant, hstate]
  rcases Nat.lt_trichotomy f.commanded g with hlt | heq | hgt
  · rw [if_pos hlt]
    exact ⟨rfl, hfree, fun _ => ⟨rfl, rfl⟩, fun heq => absurd heq hlt.ne, fun hgt => absurd hgt hlt.not_gt⟩
  · rw [if_neg (by omega), if_pos heq]
    exact ⟨rfl, hfree, fun hlt => absurd heq hlt.ne, fun _ => rfl, fun hgt => absurd heq hgt.ne'⟩
  · rw [if_neg hgt.not_gt, if_neg hgt.ne']
    exact ⟨rfl, rfl, fun hlt => absurd hlt hgt.not_gt, fun heq => absurd heq hgt.ne', fun _ => ⟨rfl, rfl⟩⟩

end

end Sys2Proof.Machine
end

section
/-! The loads, the band resets and the walk of a part that starts (sections 6.10, 7.6 and 8.6). -/

namespace Sys2Proof.Machine
variable {s t u : State}

/-! ### What a computation records -/

theorem judgeShort_supply (s : State) :
    (judgeShort s).supply = { s.supply with short := decide (s.allowance < s.supply.floorTotal) } := by
  unfold judgeShort
  dsimp only
  split
  · rw [post_eq]
    rfl
  · split
    · rw [post_eq]
      rfl
    · rfl

theorem retryHeld_granted_supply (s : State) :
    (retryHeld (granted s)).supply = (recordDivision (divide s) s).supply := by
  rw [(retryHeld_within _).supply_eq (by decide)]
  exact (forEach_within _ (handGrant_within true) _ _).supply_eq (by decide)

theorem compute_supply (s : State) :
    (compute true s).supply =
      { (recordDivision (divide s) s).supply with short := decide (s.allowance < (divide s).floorTotal) } := by
  have hallowance : (retryHeld (granted s)).allowance = s.allowance :=
    ((granted_stands s).trans (retryHeld_grantsStand _).toLoadsStand).allowance
  rw [compute_true_eq, judgeShort_supply, hallowance, retryHeld_granted_supply]
  rfl

/-- After a computation that hands every grant, with the demands handed before it, the loads stand as it leaves them. -/
theorem computed_compute (hfit : LoadsFit s = true) (hrun : s.inRun = true) (hhanded : DemandsHanded s = true) :
    Computed (compute true s) := by
  have hstands := compute_stands true s
  have hfits : LoadsFit (compute true s) = true := hstands.loadsFit.trans hfit
  obtain ⟨hfans, hrows⟩ := LoadsFit.rises hfits
  have hdemands := demandsHanded_iff.1 (hstands.same_demands.handed.kept hhanded)
    ((inRun_of_control (hstands.within.control_eq (by decide))).trans hrun)
  unfold Computed
  rw [hstands.divide, hstands.allowance, compute_supply]
  refine ⟨rfl, rfl, rfl, rfl, rfl, rfl, fun n r hr => ?_, fun ch f hf => ⟨?_, fun hload => ?_⟩⟩
  · exact compute_row_granted (all := true) hfit (q := (n, r)) (Table.find_mem _ _ _ hr)
  · exact hdemands (ch, f) (Table.find_mem _ _ _ hf)
  · exact compute_fan_granted (all := true) hfit (q := (ch, f)) (List.mem_filter.2 ⟨Table.find_mem _ _ _ hf, hload⟩)

/-! ### The field loop's own work leaves the loads as computed -/

section
variable (h : Within [.fieldLoop] s t) (hhealth : t.loop.health = s.loop.health)
include h hhealth

omit h in
theorem rowPower_of_health : t.rowPower = s.rowPower := by
  funext r g
  unfold State.rowPower State.nodeHealth State.nodeRecord
  rw [hhealth]

theorem divide_of_health : divide t = divide s := by
  have hpower := rowPower_of_health hhealth
  have hfan : fanExtra t = fanExtra s := by
    funext cls k
    simp only [fanExtra, State.classFans, State.fanLoads, h.fans_eq (by decide)]
  have hrow : rowExtra t = rowExtra s := by
    funext k
    simp only [rowExtra, State.rowFloorDraw, hpower, h.rows_eq (by decide)]
  have hfloor : t.floorSum = s.floorSum := by
    simp only [State.floorSum, State.fanLoads, State.rowFloorDraw, hpower, h.fans_eq (by decide), h.rows_eq (by decide)]
  have hallowance : t.allowance = s.allowance := by
    simp only [State.allowance, h.pins, h.supply_eq (by decide)]
  simp only [divide, hfan, hrow, hfloor, hallowance]

theorem Computed.of_health (hc : Computed s) : Computed t := by
  have hallowance : t.allowance = s.allowance := by
    simp only [State.allowance, h.pins, h.supply_eq (by decide)]
  have hform : ∀ f, t.formRequest f = s.formRequest f := formRequest_congr (SameDemands.of_apart h (by decide)).hands
  unfold Computed at hc ⊢
  rw [divide_of_health h hhealth, hallowance, h.supply_eq (by decide), h.rows_eq (by decide), h.fans_eq (by decide)]
  simpa only [hform] using hc

end

/-! ### The first transaction of the walk -/

theorem buildRequest_of_current (x : Option Transaction) (p : Ports) (s : State) (a : Nat) :
    buildRequest { s with loop := { s.loop with current := x }, ports := p } a = buildRequest s a := rfl

/-- A walk set to its first entry, with nothing in flight, begins that entry's transaction (R162, R163). -/
theorem firstTransaction_start (hstate : s.loop.state = .running) (hnext : s.loop.next = firstEntry s.loop.pollList)
    (hidle : s.loop.current = none) : FirstTransaction (startTransaction s) := by
  cases hlist : s.loop.pollList with
  | nil =>
    have hsame : startTransaction s = s := by simp [startTransaction, hlist]
    rw [hsame]
    simp [FirstTransaction, hlist, hidle]
  | cons a rest =>
    have hnext : s.loop.next = 1 := by rw [hnext, hlist]; rfl
    have hstarted : startTransaction s =
        { s with
          loop := { s.loop with current := some { address := a, request := buildRequest s a, sent := false, received := [] } }
          ports := s.ports } := by
      simp [startTransaction, hstate, hlist, hnext]
      rfl
    rw [hstarted]
    unfold FirstTransaction
    dsimp only
    have hhead : s.loop.pollList.head? = some a := by rw [hlist]; rfl
    rw [hhead]
    exact congrArg (fun r => some ({ address := a, request := r, sent := false, received := [] } : Transaction))
      (buildRequest_of_current ..).symm

theorem FirstTransaction.post (h : FirstTransaction s) (kind : EventKind) (subject a b : Nat) :
    FirstTransaction (post kind subject a b s) := by
  rw [post_eq]
  exact h

/-! ### The band resets -/

/-- A record put in a table is the one found under its number, and no other changes, whether the numbers rise or not. -/
theorem Table.find_put_any {α : Type} (t : Table α) (k j : Nat) (v : α) :
    (Table.put k v t).find j = if j = k then some v else t.find j := by
  induction t with
  | nil => simp [Table.put, Table.find_cons, eq_comm]
  | cons p t ih =>
    obtain ⟨i, x⟩ := p
    unfold Table.put
    by_cases hj : j = k
    · subst hj
      split
      · simp [Table.find_cons]
      · split
        · simp [Table.find_cons]
        next hne => simp [Table.find_cons, ih, Ne.symm hne]
    · split
      · simp [Table.find_cons, Ne.symm hj]
      · split
        next heq => simp [Table.find_cons, Ne.symm hj, ← heq]
        · simp [Table.find_cons, ih, hj]

theorem forEach_makePending_pendingBand (p : PendingBand) (l : List Nat) (s : State) (a : Nat) :
    (forEach l (fun a s => makePending a p s) s).pendingBand a = if a ∈ l then some p else s.pendingBand a := by
  induction l generalizing s with
  | nil => simp
  | cons b l ih =>
    have hput : (makePending b p s).pendingBand a = if a = b then some p else s.pendingBand a := Table.find_put_any ..
    rw [forEach_cons, ih, hput]
    by_cases hl : a ∈ l
    · simp [hl]
    · by_cases hb : a = b <;> simp [hl, hb]

theorem bandCovered_eq_false_iff {node k : Nat} :
    bandCovered s node k = false ↔ ∃ p ∈ s.bays, p.2.cfg.node = node ∧ p.2.cfg.reference k = none := by
  rw [← Bool.not_eq_true, bandCovered_iff]
  simp only [Option.isSome_iff_ne_none]
  push Not
  rfl

theorem needsReset_iff {a : Nat} :
    needsReset s a = true ↔
      bandCovered s a (s.bandRecord a).band = false ∨
        ∃ k, s.pendingBand a = some { counted := true, band := k } ∧ bandCovered s a k = false := by
  unfold needsReset
  rcases hpending : s.pendingBand a with _ | ⟨counted, band⟩
  · simp
  · cases counted <;> simp

theorem commitBands_pendingBand (s : State) (a : Nat) :
    (commitBands s).pendingBand a =
      if a < 128 ∧ needsReset s a = true then some { counted := false, band := 0 } else s.pendingBand a := by
  unfold commitBands
  rw [forEach_makePending_pendingBand]
  simp only [List.mem_filter, List.mem_range]

/-! ### The fans before their grants -/

theorem forEach_find_not_mem {α : Type} {table : State → Table α} {turn : Nat → State → State}
    (hother : ∀ n k s, k ≠ n → (table (turn n s)).find k = (table s).find k) {l : List Nat} {k : Nat} (hk : k ∉ l)
    (s : State) : (table (forEach l turn s)).find k = (table s).find k := by
  induction l generalizing s with
  | nil => rfl
  | cons n l ih =>
    rw [List.mem_cons, not_or] at hk
    rw [forEach_cons, ih hk.2, hother n k s hk.1]

theorem dueDirection_of_cfg {f g : Fan} (h : f.cfg = g.cfg) (s : State) : s.dueDirection f = s.dueDirection g := by
  simp only [State.dueDirection, h]

theorem dueDirection_of_zones (h : t.zones = s.zones) (f : Fan) : t.dueDirection f = s.dueDirection f := by
  simp only [State.dueDirection, h]

/-- A new fan at COMMIT: in its due direction, and FAULTED where its input stands asserted (R144, R137). -/
def Fan.newIn (due : Direction) (fault : Bool) (f : Fan) : Fan :=
  if fault then ({ f with direction := due } : Fan).withdrawn .faulted else { f with direction := due }

section
variable {ch k : Nat} {f : Fan}

theorem commitNewFan_find (hfind : s.fans.find ch = some f) :
    (commitNewFan ch s).fans.find ch = some (f.newIn (s.dueDirection f) (s.pins.fanFault.getLsbD ch)) := by
  have hturned : (s.modFan ch fun f => { f with direction := s.dueDirection f }).fans.find ch =
      some { f with direction := s.dueDirection f } := modFan_find _ hfind
  unfold commitNewFan Fan.newIn
  dsimp only
  split
  · rw [fanToFault_of_find hturned, post_fans_find, modFan_find _ hturned]
    rfl
  · exact hturned

theorem commitNewFan_find_other (h : ch ≠ k) (s : State) : (commitNewFan k s).fans.find ch = s.fans.find ch := by
  have hturned : (s.modFan k fun f => { f with direction := s.dueDirection f }).fans.find ch = s.fans.find ch :=
    modFan_find_other h.symm _
  unfold commitNewFan
  dsimp only
  split
  · unfold fanToFault
    split
    · exact hturned
    · rw [post_fans_find, modFan_find_other h.symm, hturned]
  · exact hturned

theorem beginReversal_find (hrun : s.inRun = true) (hfind : s.fans.find ch = some f) :
    (beginReversal ch s).fans.find ch = some (f.turned s.deckTime (s.dueDirection f)) := by
  rw [beginReversal_eq hrun]
  exact modFan_find _ hfind

theorem beginReversal_find_other (h : ch ≠ k) (s : State) : (beginReversal k s).fans.find ch = s.fans.find ch := by
  unfold beginReversal
  split
  · rfl
  · split
    · split
      · exact modFan_find_other h.symm _
      · exact modFan_find_other h.symm _
    · rfl

theorem handDemands_find (ch : Nat) (s : State) : (handDemands s).fans.find ch = (s.fans.find ch).map s.formRequest :=
  Table.find_mapRecords (fun _ f => s.formRequest f) s.fans ch

theorem zoneHands_of_fans (h : Within [.fans] s t) : t.zoneHands = s.zoneHands :=
  zoneHands_congr (h.zones_eq (by decide)) (h.stageTable_eq (by decide))
    (trafficDemand_congr (h.levels_eq (by decide)) (presentCount_of_within h (by decide) (by decide)))

theorem forEach_commitNewFan_find {before : State} (hrising : s.fans.rising = true) (hfind : s.fans.find ch = some f) :
    (forEach (s.fans.numbers.filter fun ch => !before.fans.has ch) commitNewFan s).fans.find ch =
      some (if before.fans.has ch then f else f.newIn (s.dueDirection f) (s.pins.fanFault.getLsbD ch)) := by
  have hsorted := ((Table.rising_iff_pairwise _).1 hrising).sublist
    (List.filter_sublist (p := fun ch => !before.fans.has ch))
  cases hhas : before.fans.has ch with
  | true =>
    refine (forEach_find_not_mem (table := State.fans) (fun k j u h => commitNewFan_find_other h u) ?_ s).trans hfind
    simp [hhas]
  | false =>
    have hmem : ch ∈ s.fans.numbers.filter fun ch => !before.fans.has ch :=
      List.mem_filter.2 ⟨Table.mem_numbers_of_find hfind, by simp [hhas]⟩
    obtain ⟨u, hu, hview, hlast⟩ := forEach_numbers_find (table := State.fans) commitNewFan_within
      (fun k j u h => commitNewFan_find_other h u) hsorted hmem s
    rw [hlast, commitNewFan_find (hview.trans hfind), dueDirection_of_zones (hu.zones_eq (by decide)), hu.pins]
    rfl

/-- A fan of a COMMIT before its grant: new ones first, then the requests, then the check for reversal (R144). -/
theorem commitFans_find {before : State} (hrun : s.inRun = true) (hrising : s.fans.rising = true)
    (hfind : s.fans.find ch = some f) :
    (commitFans before s).fans.find ch =
      some
        ((s.formRequest
          (if before.fans.has ch then f else f.newIn (s.dueDirection f) (s.pins.fanFault.getLsbD ch))).turned s.deckTime
            (s.dueDirection f)) := by
  generalize hnew : (if before.fans.has ch then f else f.newIn (s.dueDirection f) (s.pins.fanFault.getLsbD ch)) = x
  have hcfg : x.cfg = f.cfg := by
    rw [← hnew]
    split
    · rfl
    · unfold Fan.newIn
      split <;> rfl
  have hmade : Within [.fans] s (forEach (s.fans.numbers.filter fun ch => !before.fans.has ch) commitNewFan s) :=
    forEach_within _ commitNewFan_within _ s
  have hhanded := hmade.trans (handDemands_within _)
  have hrequest : (handDemands (forEach (s.fans.numbers.filter fun ch => !before.fans.has ch) commitNewFan s)).fans.find ch =
      some (s.formRequest x) := by
    rw [handDemands_find, forEach_commitNewFan_find hrising hfind, hnew, Option.map_some, formRequest_congr (zoneHands_of_fans hmade)]
  obtain ⟨u, hu, hview, hlast⟩ := forEach_numbers_find (table := State.fans) beginReversal_within
    (fun k j u h => beginReversal_find_other h u) ((Table.rising_iff_pairwise _).1 hrising)
    (Table.mem_numbers_of_find hfind)
    (handDemands (forEach (s.fans.numbers.filter fun ch => !before.fans.has ch) commitNewFan s))
  have hwhole := hhanded.trans hu
  refine hlast.trans ?_
  rw [beginReversal_find ((inRun_of_control (hwhole.control_eq (by decide))).trans hrun) (hview.trans hrequest),
    dueDirection_of_zones (hwhole.zones_eq (by decide)), hwhole.deckTime,
    dueDirection_of_cfg ((formRequest_cfg s x).trans hcfg)]

end

end Sys2Proof.Machine
end

section
/-! COMMIT: the rows, the fans, the band resets and the walk (sections 4.11, 6.10, 7.6 and 8.6). -/

namespace Sys2Proof.Machine
variable {s t u : State} {c : Configuration}

/-! ### The loads before their grants -/

theorem formRequest_fields (s : State) (f : Fan) :
    ∃ request floor cls, s.formRequest f = { f with request := request, floor := floor, cls := cls } := by
  unfold State.formRequest
  split
  · exact ⟨_, _, _, rfl⟩
  · exact ⟨f.request, f.floor, f.cls, rfl⟩

theorem mergeWorking_inRun (c : Configuration) (s : State) : (mergeWorking c s).inRun = true := rfl

theorem commitRecords_inRun (c : Configuration) (s : State) : (commitRecords c s).inRun = true :=
  (inRun_of_control ((commitRecords_within c s).control_eq (by decide))).trans (mergeWorking_inRun c s)

/-- The fans of a COMMIT before their grants fit the loads, and so do its rows. -/
theorem commitFans_loadsFit (hrun : s.inRun = false) (hc : c.rising = true) (htables : TablesRising s = true)
    (hfit : LoadsFit s = true) : LoadsFit (commitFans s (commitRecords c s)) = true := by
  have hkeeps : Keeps s (commitFans s (commitRecords c s)) := by
    refine Keeps.trans ?_ (commitFans_keeps s _)
    refine Keeps.trans ?_ (commitAir_keeps _)
    refine Keeps.trans ?_ (commitCensus_keeps _)
    exact (mergeWorking_keeps hrun fun _ => hc).trans (commitTotals_keeps ..)
  obtain ⟨⟨-, -, -, hrows, -, -, hfans⟩, -⟩ := tablesRising_iff.1 (hkeeps.tables htables)
  exact loadsFit_iff.2 ⟨hfans, hrows, hkeeps.classes (loadsFit_iff.1 hfit).2.2⟩

/-- A fan of a COMMIT before its check for reversal: as the working copy makes it, new ones judged, its request formed. -/
def commitFanFormed (c : Configuration) (s : State) (ch : Nat) (x : FanCfg) : Fan :=
  (commitRecords c s).formRequest
    (if s.fans.has ch then commitFan s ch x
     else (commitFan s ch x).newIn ((commitRecords c s).dueDirection (commitFan s ch x)) (s.pins.fanFault.getLsbD ch))

theorem commitFans_fan (hc : c.rising = true) {ch : Nat} {x : FanCfg} (hfind : c.fans.find ch = some x) :
    (commitFans s (commitRecords c s)).fans.find ch =
      some ((commitFanFormed c s ch x).turned s.deckTime ((commitRecords c s).dueDirection (commitFan s ch x))) := by
  have hwithin := commitRecords_within c s
  have hfans : (commitRecords c s).fans = c.fans.mapRecords (commitFan s) := hwithin.fans_eq (by decide)
  have hfound : (commitRecords c s).fans.find ch = some (commitFan s ch x) := by
    rw [hfans, Table.find_mapRecords, hfind]
    rfl
  have hrising : (commitRecords c s).fans.rising = true := by
    obtain ⟨-, -, -, -, -, -, hrises⟩ := Configuration.rising_iff.1 hc
    rw [hfans, Table.rising_congr _ _ (Table.numbers_mapRecords ..), hrises]
  have hfan := commitFans_find (before := s) (commitRecords_inRun c s) hrising hfound
  rw [hwithin.pins, hwithin.deckTime] at hfan
  exact hfan

theorem committed_dueDirection (c : Configuration) (s : State) (f : Fan) :
    (committed c s).dueDirection f = (commitRecords c s).dueDirection f :=
  dueDirection_of_zones (((committed_loads_within c s).zones_eq (by decide)).trans
    ((commitLoads_within c s).zones_eq (by decide))) f

section
variable {ch : Nat} {f : Fan} (hfit : LoadsFit (commitFans s (commitRecords c s)) = true)
  (hfind : (commitFans s (commitRecords c s)).fans.find ch = some f)
include hfit hfind

theorem committed_fan_load (hload : f.isLoad = true) (hquiet : f.Quiet) :
    ∃ f' g, (committed c s).fans.find ch = some f' ∧ f.Granted s.deckTime g f' := by
  obtain ⟨f', hf', hout⟩ := compute_fan hfit hfind hload hquiet
  rw [((commitFans_within s _).deckTime).trans (commitRecords_within c s).deckTime] at hout
  exact ⟨f', _, (congrArg (Table.find · ch) ((committed_loads_within c s).fans_eq (by decide))).trans hf', hout⟩

theorem committed_fan_out (hout : f.isLoad = false) (hfree : f.rampHeld = false) :
    (committed c s).fans.find ch = some f :=
  (congrArg (Table.find · ch) ((committed_loads_within c s).fans_eq (by decide))).trans
    (compute_fan_out hfit hfind hout hfree)

end

theorem Fan.turned_of_due (now : Time) (f : Fan) : f.turned now f.direction = f := by simp [Fan.turned]

theorem Fan.turned_of_steady {now : Time} {due : Direction} {f : Fan} (hturn : f.direction ≠ due) (hstate : f.state = .steady)
    (hpos : 0 < f.commanded) :
    f.turned now due =
      { f with state := .reversingDown, rampHeld := false, timer := some (Time.plus now f.cfg.decel) } := by
  simp [Fan.turned, hturn, hstate, hpos]

theorem Fan.turned_of_stopped {now : Time} {due : Direction} {f : Fan} (hturn : f.direction ≠ due)
    (hstate : f.state = .stopped) (hzero : f.commanded = 0) :
    f.turned now due =
      { f with state := .reverseDwell, rampHeld := false, timer := some (Time.plus now (f.cfg.dwell * 10)) } := by
  simp [Fan.turned, hturn, hstate, hzero]

theorem Fan.turned_of_out {f : Fan} (h : f.isLoad = false) (now : Time) (due : Direction) : f.turned now due = f := by
  have hstate : f.state = .faulted ∨ f.state = .isolated := by
    by_contra hno
    exact Bool.false_ne_true (h.symm.trans (Fan.isLoad_iff.2 (not_or.1 hno)))
  rcases hstate with hst | hst <;> simp [Fan.turned, hst]

/-! ### The fans of a COMMIT, kept, out of HELD, or new -/

/-- The speed of a fan that leaves HELD, brought within its new record (R144). -/
def heldSpeed (x : FanCfg) (v : Nat) : Nat := if x.maxSpeed < v then x.maxSpeed else if v < x.start then 0 else v

section
variable {ch : Nat} {x : FanCfg} {f : Fan}

theorem commitFan_of_held (hfind : s.fans.find ch = some f) (hstate : f.state = .held) :
    commitFan s ch x =
      { f with
        cfg := x, commanded := heldSpeed x f.commanded
        state := if 0 < heldSpeed x f.commanded then .steady else .stopped } := by
  rw [commitFan, hfind]
  exact if_pos hstate

theorem commitFan_of_not_held (hfind : s.fans.find ch = some f) (hstate : f.state ≠ .held) :
    commitFan s ch x = { f with cfg := x } := by
  simp [commitFan, hfind, Fan.leaveHeld, hstate]

theorem commitFan_of_new (hfind : s.fans.find ch = none) : commitFan s ch x = Fan.fresh x x.dirA := by
  simp [commitFan, hfind]

theorem commitFanFormed_of_kept (hfind : s.fans.find ch = some f) :
    commitFanFormed c s ch x = (commitRecords c s).formRequest (commitFan s ch x) := by
  simp [commitFanFormed, Table.has, hfind]

theorem commitFanFormed_of_new (hfind : s.fans.find ch = none) :
    commitFanFormed c s ch x =
      (commitRecords c s).formRequest
        ((Fan.fresh x x.dirA).newIn ((commitRecords c s).dueDirection (Fan.fresh x x.dirA)) (s.pins.fanFault.getLsbD ch)) := by
  simp [commitFanFormed, Table.has, hfind, commitFan_of_new hfind]

variable (hc : c.rising = true) (hfit : LoadsFit (commitFans s (commitRecords c s)) = true)
  (hx : c.fans.find ch = some x)
include hc hfit hx

/-- A fan FAULTED or ISOLATED stays so (R144). -/
theorem committed_fan_of_out (hfind : s.fans.find ch = some f) (hstate : f.state = .faulted ∨ f.state = .isolated)
    (hfree : f.rampHeld = false) :
    ∃ f', (committed c s).fans.find ch = some f' ∧ f'.cfg = x ∧ f'.state = f.state ∧ f'.commanded = f.commanded ∧
      f'.granted = f.granted ∧ f'.direction = f.direction := by
  have hnot : f.state ≠ .held := by rcases hstate with hst | hst <;> simp [hst]
  have hu := commitFans_fan (s := s) hc hx
  rw [commitFanFormed_of_kept hfind, commitFan_of_not_held hfind hnot] at hu
  obtain ⟨request, floor, cls, hform⟩ := formRequest_fields (commitRecords c s) { f with cfg := x }
  rw [hform] at hu
  have hout : ({ f with cfg := x, request := request, floor := floor, cls := cls } : Fan).isLoad = false := by
    rcases hstate with hst | hst <;> simp [Fan.isLoad, hst]
  rw [Fan.turned_of_out hout] at hu
  exact ⟨_, committed_fan_out hfit hu hout hfree, rfl, rfl, rfl, rfl, rfl⟩

/-- A HELD fan out of step with its due direction turns (R134, R144). -/
theorem committed_fan_of_turning (hfind : s.fans.find ch = some f) (hstate : f.state = .held)
    (hturn : f.direction ≠ (commitRecords c s).dueDirection (commitFan s ch x)) :
    ∃ f', (committed c s).fans.find ch = some f' ∧ f'.cfg = x ∧ f'.direction = f.direction ∧
      f'.commanded = heldSpeed x f.commanded ∧ f'.rampHeld = false ∧
      (if 0 < heldSpeed x f.commanded then
        f'.state = .reversingDown ∧ f'.timer = some (Time.plus s.deckTime x.decel)
       else f'.state = .reverseDwell ∧ f'.timer = some (Time.plus s.deckTime (x.dwell * 10))) := by
  have hu := commitFans_fan (s := s) hc hx
  rw [commitFanFormed_of_kept hfind] at hu
  rw [commitFan_of_held hfind hstate] at hu hturn
  generalize hspeed : heldSpeed x f.commanded = v at hu hturn ⊢
  obtain ⟨request, floor, cls, hform⟩ := formRequest_fields (commitRecords c s)
    { f with cfg := x, commanded := v, state := if 0 < v then .steady else .stopped }
  rw [hform] at hu
  by_cases hpos : 0 < v
  · simp only [if_pos hpos] at hu hturn ⊢
    rw [Fan.turned_of_steady (f := { f with
      cfg := x, commanded := v, state := .steady, request := request, floor := floor, cls := cls }) hturn rfl hpos] at hu
    obtain ⟨f', g, hf', hout⟩ := committed_fan_load hfit hu (by simp [Fan.isLoad]) ⟨rfl, by simp⟩
    rw [hout.of_reversing (.inl rfl)] at hf'
    exact ⟨_, hf', rfl, rfl, rfl, rfl, rfl, rfl⟩
  · simp only [if_neg hpos] at hu hturn ⊢
    rw [Fan.turned_of_stopped (f := { f with
      cfg := x, commanded := v, state := .stopped, request := request, floor := floor, cls := cls }) hturn rfl
      (Nat.eq_zero_of_not_pos hpos)] at hu
    obtain ⟨f', g, hf', hout⟩ := committed_fan_load hfit hu (by simp [Fan.isLoad]) ⟨rfl, by simp⟩
    rw [hout.of_reversing (.inr rfl)] at hf'
    exact ⟨_, hf', rfl, rfl, rfl, rfl, rfl, rfl⟩

/-- A HELD fan in step with its due direction acts on its grant (R144, R129). -/
theorem committed_fan_of_held (hfind : s.fans.find ch = some f) (hstate : f.state = .held) (hfree : f.rampHeld = false)
    (hdue : f.direction = (commitRecords c s).dueDirection (commitFan s ch x)) :
    ∃ f', (committed c s).fans.find ch = some f' ∧ f'.cfg = x ∧ f'.direction = f.direction ∧
      (heldSpeed x f.commanded = 0 → Fan.startedFromRest s.deckTime f') ∧
      (0 < heldSpeed x f.commanded → f'.commanded = heldSpeed x f.commanded ∧ f'.rampHeld = false ∧
        (heldSpeed x f.commanded < f'.granted →
          f'.state = .accelerating ∧ f'.timer = some (Time.plus s.deckTime x.accel)) ∧
        (heldSpeed x f.commanded = f'.granted → f'.state = .steady) ∧
        (f'.granted < heldSpeed x f.commanded →
          f'.state = .decelerating ∧ f'.timer = some (Time.plus s.deckTime x.decel))) := by
  have hu := commitFans_fan (s := s) hc hx
  rw [commitFanFormed_of_kept hfind, ← hdue, commitFan_of_held hfind hstate] at hu
  generalize hspeed : heldSpeed x f.commanded = v at hu ⊢
  obtain ⟨request, floor, cls, hform⟩ := formRequest_fields (commitRecords c s)
    { f with cfg := x, commanded := v, state := if 0 < v then .steady else .stopped }
  rw [hform] at hu
  have hstands := Fan.turned_of_due s.deckTime
    { f with
      cfg := x, commanded := v, state := if 0 < v then .steady else .stopped, request := request, floor := floor, cls := cls }
  rw [hstands] at hu
  by_cases hpos : 0 < v
  · rw [if_pos hpos] at hu
    obtain ⟨f', g, hf', hout⟩ := committed_fan_load hfit hu (by simp [Fan.isLoad]) ⟨hfree, by simp⟩
    obtain ⟨hcfg, hdirection, hgranted⟩ := hout.kept
    subst hgranted
    exact ⟨f', hf', hcfg, hdirection, fun h0 => absurd h0 hpos.ne', fun _ => hout.of_steady rfl hfree⟩
  · rw [if_neg hpos] at hu
    obtain ⟨f', g, hf', hout⟩ := committed_fan_load hfit hu (by simp [Fan.isLoad]) ⟨hfree, by simp⟩
    obtain ⟨hcfg, hdirection, -⟩ := hout.kept
    exact ⟨f', hf', hcfg, hdirection, fun h0 => hout.startedFromRest rfl h0 hfree, fun h => absurd h hpos⟩

/-- A new fan, FAULTED where its input stands asserted, and else in its due direction from rest (R144). -/
theorem committed_fan_of_new (hfind : s.fans.find ch = none) :
    ∃ f', (committed c s).fans.find ch = some f' ∧ f'.cfg = x ∧
      f'.direction = (commitRecords c s).dueDirection (Fan.fresh x x.dirA) ∧
      (s.pins.fanFault.getLsbD ch = true → f'.state = .faulted ∧ f'.commanded = 0 ∧ f'.granted = 0) ∧
      (s.pins.fanFault.getLsbD ch = false → Fan.startedFromRest s.deckTime f') := by
  have hu := commitFans_fan (s := s) hc hx
  rw [commitFanFormed_of_new hfind, commitFan_of_new hfind] at hu
  generalize (commitRecords c s).dueDirection (Fan.fresh x x.dirA) = due at hu ⊢
  cases hfault : s.pins.fanFault.getLsbD ch with
  | true =>
    rw [hfault] at hu
    obtain ⟨request, floor, cls, hform⟩ := formRequest_fields (commitRecords c s) ((Fan.fresh x x.dirA).newIn due true)
    rw [hform] at hu
    have hout : ({ (Fan.fresh x x.dirA).newIn due true with request := request, floor := floor, cls := cls } : Fan).isLoad =
        false := rfl
    rw [Fan.turned_of_out hout] at hu
    exact ⟨_, committed_fan_out hfit hu hout rfl, rfl, rfl, fun _ => ⟨rfl, rfl, rfl⟩, fun h => absurd h (by simp)⟩
  | false =>
    rw [hfault] at hu
    obtain ⟨request, floor, cls, hform⟩ := formRequest_fields (commitRecords c s) ((Fan.fresh x x.dirA).newIn due false)
    rw [hform] at hu
    have hstands := Fan.turned_of_due s.deckTime
      { (Fan.fresh x x.dirA).newIn due false with request := request, floor := floor, cls := cls }
    have hdue : ({ (Fan.fresh x x.dirA).newIn due false with request := request, floor := floor, cls := cls } : Fan).direction =
        due := rfl
    rw [hdue] at hstands
    rw [hstands] at hu
    obtain ⟨f', g, hf', hout⟩ := committed_fan_load hfit hu rfl ⟨rfl, by simp [Fan.newIn, Fan.fresh]⟩
    obtain ⟨hcfg, hdirection, -⟩ := hout.kept
    exact ⟨f', hf', hcfg, hdirection, fun h => absurd h (by simp), fun _ => hout.startedFromRest rfl rfl rfl⟩

end

/-! ### The rows of a COMMIT -/

theorem commitRow_of_kept {n : Nat} {x : RowCfg} {r : Row} (hfind : s.rows.find n = some r) (hnode : r.cfg.node = x.node) :
    commitRow s n x = { r with cfg := x, requested := if r.lightTimer.isSome then x.active else x.base } := by
  rw [commitRow, hfind]
  exact if_pos hnode

theorem commitRow_of_anew {n : Nat} {x : RowCfg} (h : ∀ r, s.rows.find n = some r → r.cfg.node ≠ x.node) :
    commitRow s n x = Row.fresh s.deckTime x := by
  rw [commitRow]
  cases hfind : s.rows.find n with
  | none => rfl
  | some r => exact if_neg (h r hfind)

theorem commitRow_frozen {n : Nat} {x : RowCfg} (hfrozen : ∀ r, s.rows.find n = some r → r.step = .frozen) :
    (commitRow s n x).step = .frozen := by
  by_cases hkept : ∀ r, s.rows.find n = some r → r.cfg.node ≠ x.node
  · rw [commitRow_of_anew hkept]
    rfl
  · push Not at hkept
    obtain ⟨r, hfind, hnode⟩ := hkept
    rw [commitRow_of_kept hfind hnode]
    exact hfrozen r hfind

theorem committed_row {n : Nat} {x : RowCfg} (hfit : LoadsFit (commitFans s (commitRecords c s)) = true)
    (hx : c.rows.find n = some x) (hfrozen : ∀ r, s.rows.find n = some r → r.step = .frozen) :
    ∃ g, (committed c s).rows.find n = some ((commitRow s n x).actOnGrant s.deckTime s.fade g) := by
  have hwithin := commitRecords_within c s
  have hfans := commitFans_within s (commitRecords c s)
  have hrows : (commitFans s (commitRecords c s)).rows = c.rows.mapRecords (commitRow s) :=
    (hfans.rows_eq (by decide)).trans (hwithin.rows_eq (by decide))
  have hfind : (commitFans s (commitRecords c s)).rows.find n = some (commitRow s n x) := by
    rw [hrows, Table.find_mapRecords, hx]
    rfl
  have hrow := compute_row hfit hfind (commitRow_frozen hfrozen)
  rw [hfans.deckTime.trans hwithin.deckTime, (hfans.fade_eq (by decide)).trans (hwithin.fade_eq (by decide))] at hrow
  exact ⟨_, (congrArg (Table.find · n) ((committed_loads_within c s).rows_eq (by decide))).trans hrow⟩

/-! ### The band resets and the walk of a COMMIT -/

theorem pendingBand_of_loop {l : FieldLoop} (h : t.loop = l) (a : Nat) : t.pendingBand a = l.pendingBands.find a := by
  rw [State.pendingBand, h]

theorem committed_pendingBand (c : Configuration) (s : State) (a : Nat) :
    (committed c s).pendingBand a =
      if a < 128 ∧ needsReset (commitLoads c s) a = true then some { counted := false, band := 0 } else s.pendingBand a := by
  have hbefore : (commitLoads c s).pendingBand a = s.pendingBand a := pendingBand_of_loop (commitLoads_loop c s) a
  have hbands := commitBands_pendingBand (commitLoads c s) a
  rw [State.pendingBand, hbefore] at hbands
  rw [pendingBand_of_loop (committed_loop c s)]
  dsimp only
  exact hbands

theorem commitLoads_bandCovered {a k : Nat} :
    bandCovered (commitLoads c s) a k = false ↔ ∃ q ∈ c.bays, q.2.node = a ∧ q.2.reference k = none := by
  have hbays : (commitLoads c s).bays = c.bays.mapRecords (commitBay s) :=
    ((commitLoads_within c s).bays_eq (by decide)).trans ((commitRecords_within c s).bays_eq (by decide))
  rw [bandCovered_eq_false_iff, hbays]
  simp only [Table.mapRecords, List.mem_map, exists_exists_and_eq_and, commitBay_cfg]

theorem commitLoads_needsReset {a : Nat} :
    needsReset (commitLoads c s) a = true ↔
      (∃ q ∈ c.bays, q.2.node = a ∧ q.2.reference (s.bandRecord a).band = none) ∨
        ∃ k, s.pendingBand a = some { counted := true, band := k } ∧ ∃ q ∈ c.bays, q.2.node = a ∧ q.2.reference k = none := by
  have hbands : (commitLoads c s).bandRecord a = s.bandRecord a := by
    unfold State.bandRecord
    rw [(commitLoads_within c s).bands_eq (by decide), (commitRecords_within c s).bands_eq (by decide)]
    rfl
  have hbefore : (commitLoads c s).pendingBand a = s.pendingBand a := pendingBand_of_loop (commitLoads_loop c s) a
  rw [needsReset_iff, hbands, hbefore]
  simp only [commitLoads_bandCovered]

theorem committed_firstTransaction (hstate : s.loop.state ≠ .draining) (hidle : s.loop.current = none) :
    FirstTransaction (committed c s) := by
  have hbands : (commitBands (commitLoads c s)).loop.state = s.loop.state ∧
      (commitBands (commitLoads c s)).loop.current = s.loop.current := by
    rw [commitBands_loop, commitLoads_loop]
    exact ⟨rfl, rfl⟩
  unfold committed commitLoop
  generalize commitBands (commitLoads c s) = u at hbands
  refine firstTransaction_start ?_ rfl (hbands.2.trans hidle)
  exact if_neg (hbands.1 ▸ hstate)

theorem committed_computed (hfit : LoadsFit (commitFans s (commitRecords c s)) = true) : Computed (committed c s) := by
  have hfans := commitFans_within s (commitRecords c s)
  have hrun : (commitFans s (commitRecords c s)).inRun = true :=
    (inRun_of_control (hfans.control_eq (by decide))).trans (commitRecords_inRun c s)
  have hhanded : DemandsHanded (commitFans s (commitRecords c s)) = true :=
    (forEach_same_demands _ beginReversal_same_demands _ _).handed.kept (handDemands_handed _)
  refine (computed_compute hfit hrun hhanded).of_health (committed_loads_within c s) ?_
  show (committed c s).loop.health = (commitLoads c s).loop.health
  rw [committed_loop, commitLoads_loop]

/-- In CONFIG mode every fan is HELD, FAULTED or ISOLATED, and none is held before a step (R142). -/
theorem StepsHeld.fan (h : StepsHeld s = true) (hrun : s.inRun = false) {ch : Nat} {f : Fan} (hfind : s.fans.find ch = some f) :
    f.rampHeld = false ∧ (f.state = .held ∨ f.state = .faulted ∨ f.state = .isolated) := by
  obtain ⟨hfans, -⟩ := stepsHeld_iff.1 h
  obtain ⟨hheld, hout⟩ : f.StepFits s.inRun := hfans (ch, f) (Table.find_mem _ _ _ hfind)
  have hstate := hout.resolve_left (by simp [hrun])
  refine ⟨Bool.eq_false_iff.2 fun hramp => ?_, hstate⟩
  rcases hheld hramp with hst | hst <;> simp [hst] at hstate

theorem StepsHeld.row (h : StepsHeld s = true) (hrun : s.inRun = false) {n : Nat} {r : Row}
    (hfind : s.rows.find n = some r) : r.step = .frozen := by
  obtain ⟨-, hrows⟩ := stepsHeld_iff.1 h
  exact hrows.resolve_left (by simp [hrun]) (n, r.step) (List.mem_map.2 ⟨(n, r), Table.find_mem _ _ _ hfind, rfl⟩)

/-- Settles O21: the rows and fans one by one, then the band resets and the walk. -/
theorem commitStartsLoads : Obligations.CommitStartsLoads := by
  unfold Obligations.CommitStartsLoads
  intro s tag hready hrun hwriting htables hsteps hloads hpasses c
  have hc : c.rising = true := workingCopy_rising htables
  have hfit := commitFans_loadsFit hrun hc htables hloads
  have hposted : Within [] (committed c s) (post .modeChanged 1 0 1 (committed c s)) := post_within ..
  have hrows : (post .modeChanged 1 0 1 (committed c s)).rows = (committed c s).rows := hposted.rows_eq (by decide)
  have hfans : (post .modeChanged 1 0 1 (committed c s)).fans = (committed c s).fans := hposted.fans_eq (by decide)
  have hloop : (post .modeChanged 1 0 1 (committed c s)).loop = (committed c s).loop := hposted.loop_eq (by decide)
  have hdue {f' : Fan} {ch : Nat} {x : FanCfg} (hcfg : f'.cfg = x) :
      (post .modeChanged 1 0 1 (committed c s)).dueDirection f' = (commitRecords c s).dueDirection (commitFan s ch x) := by
    rw [dueDirection_of_zones (hposted.zones_eq (by decide)), committed_dueDirection]
    exact dueDirection_of_cfg (hcfg.trans (commitFan_cfg s ch x).symm) _
  refine ⟨_, exec_commit_of_passes hready hrun hwriting hpasses, ?computed, fun n x hx => ?row, fun ch x hx => ?fan,
    fun a => ?band, fun hstate hidle => ?walk⟩
  case computed => exact (committed_computed hfit).of_health (hposted.mono (by decide)) (congrArg FieldLoop.health hloop)
  case row =>
    obtain ⟨g, hr⟩ := committed_row hfit hx fun r hfind => StepsHeld.row hsteps hrun hfind
    have hfrozen := commitRow_frozen (x := x) fun r hfind => StepsHeld.row hsteps hrun (n := n) hfind
    refine ⟨_, (congrArg (Table.find · n) hrows).trans hr, commitRow_cfg s n x, Row.compared_actOnGrant _ _ _ hfrozen,
      fun r hfind hnode => ?_, fun hanew => ?_⟩
    · rw [commitRow_of_kept hfind hnode]
      refine ⟨rfl, rfl, ?_⟩
      cases htimer : r.lightTimer <;> simp [Row.actOnGrant]
    · rw [commitRow_of_anew hanew]
      exact ⟨rfl, rfl, rfl⟩
  case fan =>
    cases hfind : s.fans.find ch with
    | none =>
      obtain ⟨f', hf', hcfg, hdirection, hfaulted, hstarted⟩ := committed_fan_of_new hc hfit hx hfind
      rw [← commitFan_of_new (s := s) hfind, ← hdue hcfg] at hdirection
      exact ⟨f', (congrArg (Table.find · ch) hfans).trans hf', hcfg, fun _ h => absurd h (by simp), fun _ h => absurd h (by simp),
        fun _ => ⟨hdirection, hfaulted, hstarted⟩⟩
    | some f =>
      obtain ⟨hfree, hstate⟩ := StepsHeld.fan hsteps hrun hfind
      by_cases hheld : f.state = .held
      · have hin : ¬ (f.state = .faulted ∨ f.state = .isolated) := by simp [hheld]
        by_cases hturn : f.direction = (commitRecords c s).dueDirection (commitFan s ch x)
        · obtain ⟨f', hf', hcfg, hdirection, hrest, hmoving⟩ := committed_fan_of_held hc hfit hx hfind hheld hfree hturn
          refine ⟨f', (congrArg (Table.find · ch) hfans).trans hf', hcfg, fun _ h hout => ?_, fun _ h _ => ?_,
            fun h => absurd h (by simp)⟩
          · cases h
            exact absurd hout hin
          · cases h
            exact ⟨hdirection, fun hne => absurd (hturn.trans (hdue hcfg).symm) hne, fun _ hzero => hrest hzero,
              fun _ hpos => hmoving hpos⟩
        · obtain ⟨f', hf', hcfg, hdirection, hspeed, hramp, hturned⟩ :=
            committed_fan_of_turning hc hfit hx hfind hheld hturn
          refine ⟨f', (congrArg (Table.find · ch) hfans).trans hf', hcfg, fun _ h hout => ?_, fun _ h _ => ?_,
            fun h => absurd h (by simp)⟩
          · cases h
            exact absurd hout hin
          · cases h
            exact ⟨hdirection, fun _ => ⟨hspeed, hramp, hturned⟩, fun heq => absurd (heq.trans (hdue hcfg)) hturn,
              fun heq => absurd (heq.trans (hdue hcfg)) hturn⟩
      · obtain ⟨f', hf', hcfg, hout⟩ := committed_fan_of_out hc hfit hx hfind (hstate.resolve_left hheld) hfree
        refine ⟨f', (congrArg (Table.find · ch) hfans).trans hf', hcfg, fun _ h _ => ?_, fun _ h hst => ?_,
          fun h => absurd h (by simp)⟩
        · cases h
          exact hout
        · cases h
          exact absurd hst hheld
  case band =>
    have hpending : (post .modeChanged 1 0 1 (committed c s)).pendingBand a = (committed c s).pendingBand a :=
      pendingBand_of_loop hloop a
    rw [hpending, committed_pendingBand]
    exact ⟨fun hreset => if_pos ⟨hreset.1, commitLoads_needsReset.2 hreset.2⟩,
      fun hkept => if_neg fun h => hkept ⟨h.1, commitLoads_needsReset.1 h.2⟩⟩
  case walk => exact (committed_firstTransaction hstate hidle).post _ _ _ _

end Sys2Proof.Machine
end

section
/-! A full restart with a valid profile (section 10.6). -/

namespace Sys2Proof.Machine
variable {s t u : State} {p : Profile} {cause : RestartCause}

/-! ### The state a restart starts running from -/

/-- The part with a valid profile loaded and its ports emptied (R193 steps 1 to 4, R181). -/
def profileEmptied (p : Profile) (cause : RestartCause) (s : State) : State :=
  { loadProfile p true cause s with ports := emptyPorts (loadProfile p true cause s).ports }

/-- The same with RESTARTED queued, as it starts running (R193 step 5). -/
def profileTold (p : Profile) (cause : RestartCause) (s : State) : State := postRestarted 1 0 (profileEmptied p cause s)

theorem profileTold_within (p : Profile) (cause : RestartCause) (s : State) :
    Within [] (profileEmptied p cause s) (profileTold p cause s) := postRestarted_within ..

theorem profileTold_inRun (p : Profile) (cause : RestartCause) (s : State) : (profileTold p cause s).inRun = true :=
  inRun_of_control ((profileTold_within p cause s).control_eq (by decide))

theorem fullRestart_of_profile (hstore : s.control.store = some p) (hwriting : s.writing = false) :
    fullRestart cause s = startRunning (profileTold p cause s) := by
  have hstored : (if s.writing then none else s.control.store) = some p := by simp [hwriting, hstore]
  unfold fullRestart
  rw [hstored]
  exact if_pos (profileTold_inRun p cause s)

/-! ### The loads as they start -/

/-- The part with the requests formed and the fans with an asserted input FAULTED, before its first computation (R145). -/
def faultsTaken (s : State) : State := forEach (assertedFans s) fanToFault (handDemands s)

theorem startRunning_eq (s : State) : startRunning s = startTransaction (compute true (faultsTaken s)) := rfl

theorem faultsTaken_within (s : State) : Within [.fans] s (faultsTaken s) :=
  (handDemands_within s).trans (forEach_within _ fanToFault_within _ _)

theorem startRunning_within (s : State) : Within [.rows, .fans, .supply, .fieldLoop] s (startRunning s) :=
  (((faultsTaken_within s).mono (by decide)).trans ((compute_within true _).mono (by decide))).trans
    ((startTransaction_within _).mono (by decide))

theorem fanToFault_find {ch : Nat} {f : Fan} (hfind : s.fans.find ch = some f) :
    (fanToFault ch s).fans.find ch = some (f.withdrawn .faulted) := by
  rw [fanToFault_of_find hfind, post_fans_find, modFan_find _ hfind]
  rfl

theorem fanToFault_find_other {ch k : Nat} (h : ch ≠ k) (s : State) : (fanToFault k s).fans.find ch = s.fans.find ch := by
  unfold fanToFault
  split
  · rfl
  · rw [post_fans_find, modFan_find_other h.symm]

theorem faultsTaken_find (hrising : s.fans.rising = true) {ch : Nat} {f : Fan} (hfind : s.fans.find ch = some f) :
    (faultsTaken s).fans.find ch =
      some (if s.pins.fanFault.getLsbD ch then (s.formRequest f).withdrawn .faulted else s.formRequest f) := by
  have hrequest : (handDemands s).fans.find ch = some (s.formRequest f) := by rw [handDemands_find, hfind]; rfl
  have hsorted := ((Table.rising_iff_pairwise _).1 hrising).sublist
    (List.filter_sublist (p := fun ch => s.pins.fanFault.getLsbD ch))
  cases hfault : s.pins.fanFault.getLsbD ch with
  | false =>
    refine (forEach_find_not_mem (table := State.fans) (fun k j u h => fanToFault_find_other h u) ?_ _).trans hrequest
    simp [assertedFans, hfault]
  | true =>
    have hmem : ch ∈ assertedFans s := List.mem_filter.2 ⟨Table.mem_numbers_of_find hfind, hfault⟩
    obtain ⟨u, -, hview, hlast⟩ := forEach_numbers_find (table := State.fans) fanToFault_within
      (fun k j u h => fanToFault_find_other h u) hsorted hmem (handDemands s)
    exact hlast.trans (fanToFault_find (hview.trans hrequest))

theorem forEach_fanToFault_fanCfgs (l : List Nat) (s : State) : (forEach l fanToFault s).fanCfgs = s.fanCfgs :=
  forEach_same State.fanCfgs _ fanToFault_fanCfgs l s

theorem startRunning_loop (s : State) :
    (startRunning s).loop = { s.loop with current := (startRunning s).loop.current } := by
  have hbefore : (compute true (faultsTaken s)).loop = s.loop :=
    ((compute_within true _).loop_eq (by decide)).trans ((faultsTaken_within s).loop_eq (by decide))
  rw [startRunning_eq]
  generalize compute true (faultsTaken s) = u at hbefore ⊢
  rw [← hbefore]
  exact startTransaction_loop u

theorem startRunning_inForce (s : State) : (startRunning s).inForce = s.inForce := by
  have hwithin := startRunning_within s
  have hfaults := faultsTaken_within s
  have hstands := compute_stands true (faultsTaken s)
  have hstarted := startTransaction_within (compute true (faultsTaken s))
  have hfans : (startRunning s).fanCfgs = s.fanCfgs :=
    (fanCfgs_of_fans (hstarted.fans_eq (by decide))).trans (hstands.fanCfgs.trans
      ((forEach_fanToFault_fanCfgs ..).trans (handDemands_fanCfgs s)))
  have hrows : ((startRunning s).rows.mapRecords fun _ r => r.cfg) = s.rows.mapRecords fun _ r => r.cfg := by
    rw [startRunning_eq, hstarted.rows_eq (by decide), hstands.rowCfgs, hfaults.rows_eq (by decide)]
  have hlist : (startRunning s).loop.pollList = s.loop.pollList := by rw [startRunning_loop]
  unfold State.inForce
  rw [hwithin.bays_eq (by decide), hwithin.pairs_eq (by decide), hwithin.levels_eq (by decide), hrows,
    hwithin.heads_eq (by decide), hwithin.zones_eq (by decide), hwithin.jitter_eq (by decide), hlist]
  exact congrArg (fun fans => ({ s.inForce with fans := fans } : Configuration)) hfans

/-! ### The events posted after RESTARTED -/

/-- The event queues stand with records added at their newest ends. -/
structure EventsGrow (s t : State) : Prop where
  grows : ∀ st, (s.port st).events <+: (t.port st).events

theorem EventsGrow.trans (h : EventsGrow s t) (k : EventsGrow t u) : EventsGrow s u :=
  ⟨fun st => (h.grows st).trans (k.grows st)⟩

theorem EventsGrow.of_ports (h : t.ports = s.ports) : EventsGrow s t :=
  ⟨fun st => by cases st <;> simp [State.port, h]⟩

theorem Port.delivered_events (q : Port) (e : EventRecord) : q.events <+: (q.delivered e).events := by
  unfold Port.delivered
  split
  · exact List.prefix_append ..
  · exact List.prefix_rfl

theorem post_eventsGrow (kind : EventKind) (subject a b : Nat) (s : State) : EventsGrow s (post kind subject a b s) where
  grows st := by
    rw [post_port]
    split
    · exact Port.delivered_events ..
    · exact List.prefix_rfl

theorem fanToFault_eventsGrow (ch : Nat) (s : State) : EventsGrow s (fanToFault ch s) := by
  have hfaulted : EventsGrow s (s.modFan ch fun f => f.withdrawn .faulted) := .of_ports rfl
  unfold fanToFault
  split
  · exact .of_ports rfl
  · exact hfaulted.trans (post_eventsGrow ..)

theorem fanRise_ports (ch speed : Nat) (s : State) : (fanRise ch speed s).ports = s.ports := by
  unfold fanRise
  split
  · rfl
  · split <;> rfl

theorem grantFan_ports (ch g : Nat) (s : State) : (grantFan ch g s).ports = s.ports := by
  cases hfind : s.fans.find ch with
  | none => simp [grantFan, hfind]
  | some f =>
    by_cases hstart : f.startsOn g
    · rw [grantFan_of_start hfind hstart, fanRise_ports]
      rfl
    · rw [grantFan_of_no_start hfind hstart]
      rfl

theorem handGrant_true_ports (x : Load × Nat) (s : State) : (handGrant true x s).ports = s.ports := by
  obtain ⟨l, g⟩ := x
  cases l with
  | fan ch => exact grantFan_ports ch g s
  | row n => rfl

theorem rowRise_ports (n : Nat) (s : State) : (rowRise n s).ports = s.ports := by
  unfold rowRise
  split
  · rfl
  · dsimp only
    split <;> rfl

theorem retryLoad_ports (l : Load) (s : State) : (retryLoad l s).ports = s.ports := by
  cases l with
  | row n => exact rowRise_ports n s
  | fan ch =>
    unfold retryLoad
    dsimp only
    split
    · split
      · unfold fanStart
        split
        · exact fanRise_ports ..
        · rfl
      · split
        · unfold fanAccelerate
          split
          · exact fanRise_ports ..
          · rfl
        · rfl
    · rfl

theorem judgeShort_eventsGrow (s : State) : EventsGrow s (judgeShort s) := by
  have hstored (b : Bool) : EventsGrow s (s.setSupply { s.supply with short := b }) := .of_ports rfl
  unfold judgeShort
  dsimp only
  split
  · exact (hstored _).trans (post_eventsGrow ..)
  · split
    · exact (hstored _).trans (post_eventsGrow ..)
    · exact hstored _

theorem compute_eventsGrow (s : State) : EventsGrow s (compute true s) := by
  have hhanded : (retryHeld (granted s)).ports = s.ports :=
    (forEach_same State.ports _ retryLoad_ports _ _).trans (forEach_same State.ports _ handGrant_true_ports _ _)
  exact (EventsGrow.of_ports hhanded).trans (judgeShort_eventsGrow _)

theorem startTransaction_ports (s : State) : (startTransaction s).ports = s.ports := by
  unfold startTransaction
  split <;> rfl

theorem startRunning_eventsGrow (s : State) : EventsGrow s (startRunning s) := by
  have hfaults : EventsGrow (handDemands s) (faultsTaken s) :=
    forEach_rel EventsGrow (fun _ => .of_ports rfl) (fun _ _ _ => EventsGrow.trans) _ fanToFault_eventsGrow _ _
  have hrequests : EventsGrow s (handDemands s) := .of_ports rfl
  refine (hrequests.trans hfaults).trans ((compute_eventsGrow _).trans ?_)
  exact .of_ports (startTransaction_ports _)

/-! ### What stands once the part runs -/

theorem profileTold_fans (p : Profile) (cause : RestartCause) (s : State) :
    (profileTold p cause s).fans = p.config.fans.mapRecords fun _ x => Fan.fresh x x.dirA :=
  (profileTold_within p cause s).fans_eq (by decide)

theorem profileTold_rows (p : Profile) (cause : RestartCause) (s : State) :
    (profileTold p cause s).rows = p.config.rows.mapRecords fun _ x => Row.fresh 0#32 x :=
  (profileTold_within p cause s).rows_eq (by decide)

theorem profileTold_loop (p : Profile) (cause : RestartCause) (s : State) :
    (profileTold p cause s).loop =
      { state := .running, pollList := p.config.pollList, next := firstEntry p.config.pollList, current := none, health := []
        pendingBands := (bayNodes p.config.bays).map fun a => (a, { counted := false, band := 0 }) } :=
  (profileTold_within p cause s).loop_eq (by decide)

theorem profileEmptied_inForce (p : Profile) (cause : RestartCause) (s : State) :
    (profileEmptied p cause s).inForce = p.config := by
  simp only [State.inForce, profileEmptied, loadProfile, Table.mapRecords_mapRecords, Bay.fresh, RampPair.fresh, Level.fresh,
    Row.fresh, Head.fresh, Zone.fresh, Fan.fresh, Table.mapRecords_id]

theorem inForce_of_within (h : Within [] s t) : t.inForce = s.inForce := by
  unfold State.inForce
  rw [h.bays_eq (by decide), h.pairs_eq (by decide), h.levels_eq (by decide), h.rows_eq (by decide),
    h.heads_eq (by decide), h.zones_eq (by decide), h.fans_eq (by decide), h.jitter_eq (by decide),
    h.loop_eq (by decide)]

/-- The band resets a restart makes pending: one for each node that carries a bay (R15). -/
theorem find_bayResets (bays : Table BayCfg) (reset : PendingBand) (a : Nat) :
    Table.find ((bayNodes bays).map fun n => (n, reset)) a =
      if a < 128 ∧ ∃ q ∈ bays, q.2.node = a then some reset else none := by
  have hfind (l : List Nat) : Table.find (l.map fun n => (n, reset)) a = if a ∈ l then some reset else none := by
    induction l with
    | nil => rfl
    | cons n l ih =>
      rw [List.map_cons, Table.find_cons, ih]
      by_cases hn : n = a
      · simp [hn]
      · simp [hn, Ne.symm hn]
  rw [hfind]
  exact if_congr (by simp [bayNodes]) rfl rfl

/-! ### The loads of a part that starts running -/

section
variable (p : Profile) (cause : RestartCause) (s : State)

theorem faultsTaken_inRun : (faultsTaken (profileTold p cause s)).inRun = true :=
  (inRun_of_control ((faultsTaken_within _).control_eq (by decide))).trans (profileTold_inRun p cause s)

theorem faultsTaken_handed (s : State) : DemandsHanded (faultsTaken s) = true :=
  (forEach_same_demands _ fanToFault_same_demands _ _).handed.kept (handDemands_handed s)

theorem faultsTaken_keeps (s : State) : Keeps s (faultsTaken s) :=
  (handDemands_keeps s).trans (forEach_keepsLaws _ fanToFault_keeps _ _)

variable {p}
variable (hrising : p.config.rising = true)
include hrising

theorem profileTold_fans_rising : (profileTold p cause s).fans.rising = true := by
  obtain ⟨-, -, -, -, -, -, hfans⟩ := Configuration.rising_iff.1 hrising
  rw [profileTold_fans, Table.rising_congr _ _ (Table.numbers_mapRecords ..), hfans]

theorem faultsTaken_loadsFit : LoadsFit (faultsTaken (profileTold p cause s)) = true := by
  obtain ⟨-, -, -, hrows, -, -, -⟩ := Configuration.rising_iff.1 hrising
  have hnumbers : (faultsTaken (profileTold p cause s)).fans.numbers = (profileTold p cause s).fans.numbers := by
    have hcfgs : (faultsTaken (profileTold p cause s)).fanCfgs = (profileTold p cause s).fanCfgs :=
      (forEach_fanToFault_fanCfgs ..).trans (handDemands_fanCfgs _)
    have hsame := congrArg Table.numbers hcfgs
    rwa [State.fanCfgs, State.fanCfgs, Table.numbers_mapRecords, Table.numbers_mapRecords] at hsame
  refine loadsFit_iff.2 ⟨?fans, ?rows, (faultsTaken_keeps _).classes fun q hq => ?fresh⟩
  case fans => rw [Table.rising_congr _ _ hnumbers, profileTold_fans_rising cause s hrising]
  case rows =>
    rw [(faultsTaken_within _).rows_eq (by decide), profileTold_rows,
      Table.rising_congr _ _ (Table.numbers_mapRecords ..), hrows]
  case fresh =>
    rw [profileTold_fans] at hq
    obtain ⟨x, -, rfl⟩ := List.mem_map.1 hq
    exact Fan.classFits_fresh ..

/-- Every row at its active level, by the comparison of its grant (R93). -/
theorem startRunning_row {n : Nat} {r : Row} (hr : (startRunning (profileTold p cause s)).rows.find n = some r) :
    r.requested = r.cfg.active ∧ r.commanded = r.cfg.active ∧
      r.lightTimer = some (Time.plus 0#32 (r.cfg.holdTime * 10)) ∧ Row.compared 0#32 p.fade r := by
  rw [startRunning_eq, (startTransaction_within _).rows_eq (by decide)] at hr
  obtain ⟨r0, hr0, -⟩ := (compute_stands true _).row_before hr
  have hfresh := hr0
  rw [(faultsTaken_within _).rows_eq (by decide), profileTold_rows, Table.find_mapRecords] at hfresh
  obtain ⟨x, -, rfl⟩ := Option.map_eq_some_iff.1 hfresh
  rw [compute_row (faultsTaken_loadsFit cause s hrising) hr0 rfl] at hr
  cases hr
  refine ⟨rfl, rfl, rfl, ?_⟩
  have htime : (faultsTaken (profileTold p cause s)).deckTime = 0#32 :=
    ((faultsTaken_within _).deckTime).trans (profileTold_within p cause s).deckTime
  have hfade : (faultsTaken (profileTold p cause s)).fade = p.fade :=
    ((faultsTaken_within _).fade_eq (by decide)).trans ((profileTold_within p cause s).fade_eq (by decide))
  rw [htime, hfade]
  exact Row.compared_actOnGrant _ _ _ rfl

/-- Every fan FAULTED where its input is asserted, and else from rest (R145). -/
theorem startRunning_fan {ch : Nat} {f : Fan} (hf : (startRunning (profileTold p cause s)).fans.find ch = some f) :
    f.direction = f.cfg.dirA ∧
      (s.pins.fanFault.getLsbD ch = true →
        f.state = .faulted ∧ f.commanded = 0 ∧ f.granted = 0 ∧ f.rampHeld = false ∧ f.timer = none) ∧
      (s.pins.fanFault.getLsbD ch = false → Fan.startedFromRest 0#32 f) := by
  have hfit := faultsTaken_loadsFit cause s hrising
  have hpins : (profileTold p cause s).pins = s.pins := (profileTold_within p cause s).pins
  have htime : (faultsTaken (profileTold p cause s)).deckTime = 0#32 :=
    ((faultsTaken_within _).deckTime).trans (profileTold_within p cause s).deckTime
  rw [startRunning_eq, (startTransaction_within _).fans_eq (by decide)] at hf
  obtain ⟨x, hx⟩ : ∃ x, (profileTold p cause s).fans.find ch = some (Fan.fresh x x.dirA) := by
    have hcfgs : (compute true (faultsTaken (profileTold p cause s))).fanCfgs = p.config.fans := by
      rw [(compute_stands true _).fanCfgs, faultsTaken, forEach_fanToFault_fanCfgs, handDemands_fanCfgs, State.fanCfgs,
        profileTold_fans, Table.mapRecords_mapRecords]
      exact Table.mapRecords_id _
    have hin := congrArg (Table.find · ch) hcfgs
    simp only [State.fanCfgs, Table.find_mapRecords, hf] at hin
    exact ⟨f.cfg, by rw [profileTold_fans, Table.find_mapRecords, ← hin]; rfl⟩
  have hstart := faultsTaken_find (profileTold_fans_rising cause s hrising) hx
  obtain ⟨request, floor, cls, hform⟩ := formRequest_fields (profileTold p cause s) (Fan.fresh x x.dirA)
  rw [hform, hpins] at hstart
  cases hfault : s.pins.fanFault.getLsbD ch with
  | true =>
    rw [hfault, if_pos rfl] at hstart
    rw [compute_fan_out hfit hstart rfl rfl] at hf
    cases hf
    exact ⟨rfl, fun _ => ⟨rfl, rfl, rfl, rfl, rfl⟩, fun h => absurd h (by simp)⟩
  | false =>
    rw [hfault, if_neg Bool.false_ne_true] at hstart
    obtain ⟨f', hf', hout⟩ := compute_fan hfit hstart rfl ⟨rfl, by simp [Fan.fresh]⟩
    rw [hf', Option.some.injEq] at hf
    subst hf
    obtain ⟨hcfg, hdirection, -⟩ := hout.kept
    rw [htime] at hout
    exact ⟨by rw [hcfg, hdirection]; rfl, fun h => absurd h (by simp), fun _ => hout.startedFromRest rfl rfl rfl⟩

theorem startRunning_computed : Computed (startRunning (profileTold p cause s)) := by
  have hcomputed := computed_compute (faultsTaken_loadsFit cause s hrising) (faultsTaken_inRun p cause s)
    (faultsTaken_handed _)
  rw [startRunning_eq]
  generalize compute true (faultsTaken (profileTold p cause s)) = u at hcomputed
  refine hcomputed.of_health (startTransaction_within u) ?_
  rw [startTransaction_loop]

theorem startRunning_loadsRestarted : LoadsRestarted (startRunning (profileTold p cause s)) := by
  have hwithin := startRunning_within (profileTold p cause s)
  have hfade : (startRunning (profileTold p cause s)).fade = p.fade :=
    (hwithin.fade_eq (by decide)).trans ((profileTold_within p cause s).fade_eq (by decide))
  have hpins : (startRunning (profileTold p cause s)).pins = s.pins :=
    hwithin.pins.trans (profileTold_within p cause s).pins
  unfold LoadsRestarted
  rw [hfade, hpins]
  exact ⟨startRunning_computed cause s hrising, fun n r => startRunning_row cause s hrising,
    fun ch f => startRunning_fan cause s hrising⟩

end

/-! ### The restart -/

/-- The mask a profile gives each station. -/
def Profile.mask (p : Profile) : Station → BitVec 32
  | .supervisor => p.maskS
  | .lane => p.maskL
  | .guidance => p.maskG

theorem profileTold_port (p : Profile) (cause : RestartCause) (s : State) (st : Station) :
    (profileTold p cause s).port st = portRestarted 0#32 cause true .run (p.mask st) (s.port st) := by
  cases st <;> rfl

theorem startRunning_port (p : Profile) (cause : RestartCause) (s : State) (st : Station) :
    ((startRunning (profileTold p cause s)).port st).mask = p.mask st ∧
      ((startRunning (profileTold p cause s)).port st).commands = [] ∧
      ((startRunning (profileTold p cause s)).port st).responses = [] ∧
      ((startRunning (profileTold p cause s)).port st).overrun = false ∧
      ((startRunning (profileTold p cause s)).port st).transaction = (s.port st).transaction.abandon ∧
      ((startRunning (profileTold p cause s)).port st).events.head? =
        some { kind := .restarted, time := 0#32, subject := cause.code, a := 1, b := 0 } := by
  obtain ⟨hcommands, hresponses, hoverrun, hmask, htransaction⟩ := (startRunning_within (profileTold p cause s)).ports st
  obtain ⟨later, hevents⟩ := (startRunning_eventsGrow (profileTold p cause s)).grows st
  rw [profileTold_port] at hcommands hresponses hoverrun hmask htransaction hevents
  exact ⟨hmask, hcommands, hresponses, hoverrun, htransaction, by rw [← hevents]; rfl⟩

theorem startRunning_firstTransaction (p : Profile) (cause : RestartCause) (s : State) :
    FirstTransaction (startRunning (profileTold p cause s)) := by
  have hloop : (compute true (faultsTaken (profileTold p cause s))).loop = (profileTold p cause s).loop :=
    ((compute_within true _).loop_eq (by decide)).trans ((faultsTaken_within _).loop_eq (by decide))
  rw [profileTold_loop] at hloop
  rw [startRunning_eq]
  generalize compute true (faultsTaken (profileTold p cause s)) = u at hloop
  exact firstTransaction_start (by rw [hloop]) (by rw [hloop]) (by rw [hloop])

theorem startRunning_allowances (s : State) :
    (startRunning s).supply.normal = s.supply.normal ∧ (startRunning s).supply.shed = s.supply.shed := by
  have hstands := compute_stands true (faultsTaken s)
  have hsupply : (faultsTaken s).supply = s.supply := (faultsTaken_within s).supply_eq (by decide)
  rw [startRunning_eq, (startTransaction_within _).supply_eq (by decide), hstands.normal, hstands.shed, hsupply]
  exact ⟨rfl, rfl⟩

theorem profileLoaded_startRunning (p : Profile) (cause : RestartCause) (s : State) :
    ProfileLoaded p cause s (startRunning (profileTold p cause s)) := by
  have hstart := startRunning_within (profileTold p cause s)
  have hwithin := (profileTold_within p cause s).mono (more := [.rows, .fans, .supply, .fieldLoop]) (by decide) |>.trans hstart
  have hloop := startRunning_loop (profileTold p cause s)
  rw [profileTold_loop] at hloop
  obtain ⟨hnormal, hshed⟩ := startRunning_allowances (profileTold p cause s)
  have hsupply : (profileTold p cause s).supply = (profileEmptied p cause s).supply :=
    (profileTold_within p cause s).supply_eq (by decide)
  have hconfig : (startRunning (profileTold p cause s)).inForce = p.config :=
    (startRunning_inForce _).trans ((inForce_of_within (profileTold_within p cause s)).trans
      (profileEmptied_inForce p cause s))
  have hport := startRunning_port p cause s
  have hfirst := startRunning_firstTransaction p cause s
  have hloads := startRunning_loadsRestarted (p := p) cause s
  rw [hsupply] at hnormal hshed
  generalize startRunning (profileTold p cause s) = t at *
  refine ⟨hwithin.pending, hwithin.pins, hwithin.deckTime, hwithin.control_eq (by decide), hconfig,
    hwithin.bays_eq (by decide), hwithin.bands_eq (by decide), hwithin.pairs_eq (by decide), hwithin.levels_eq (by decide),
    hwithin.censusMinute_eq (by decide), hwithin.censusStart_eq (by decide), hwithin.heads_eq (by decide),
    hwithin.zones_eq (by decide), hwithin.airMinute_eq (by decide), hwithin.stageTable_eq (by decide),
    hwithin.fade_eq (by decide), hwithin.guidance_eq (by decide), hnormal, hshed, hloads,
    fun a => (pendingBand_of_loop hloop a).trans (find_bayResets ..),
    congrArg FieldLoop.health hloop, congrArg FieldLoop.state hloop, congrArg FieldLoop.next hloop, hfirst,
    (hport .supervisor).1, (hport .lane).1, (hport .guidance).1, fun st => (hport st).2⟩

/-- Settles O26: the three causes lead to the one restart, which loads the profile and starts running. -/
theorem restartLoadsProfile : Obligations.RestartLoadsProfile := by
  unfold Obligations.RestartLoadsProfile
  refine fun s p hstore hwriting => ⟨fun strap => ?_, fun hheld => ?_, fun tag hready => ?_⟩
  · refine ⟨_, ?_, profileLoaded_startRunning p .powerOn { s with control := { s.control with strapHigh := strap } }⟩
    exact congrArg Host.Outcome.next (fullRestart_of_profile hstore hwriting)
  · refine ⟨_, ?_, profileLoaded_startRunning p .pin s⟩
    simp [exec, execResetNReleased, hheld, fullRestart_of_profile hstore hwriting]
  · refine ⟨_, ?_, profileLoaded_startRunning p .hardCommand s⟩
    refine exec_silent (c := .restart 0) rfl hready rfl (by decide) rfl rfl ?_
    simp [execute, doRestart, fullRestart_of_profile hstore hwriting]

end Sys2Proof.Machine
end

section
/-! Frames read back: operands, their layout, and the check code (section 9.8). -/

namespace Sys2Proof

/-! ### Values in bytes -/

theorem leBytes_length (w v : Nat) : (leBytes w v).length = w := by
  induction w generalizing v with
  | zero => rfl
  | succ w ih => simp [leBytes, ih]

theorem leNat_leBytes {w v : Nat} (h : v < 256 ^ w) : leNat (leBytes w v) = v := by
  induction w generalizing v with
  | zero => simpa [leBytes, leNat] using (Nat.lt_one_iff.1 h).symm
  | succ w ih =>
    have hrest : v / 256 < 256 ^ w := by rw [pow_succ] at h; omega
    rw [leBytes, leNat, ih hrest, BitVec.toNat_ofNat]
    exact Nat.mod_add_div v 256

/-- Values each of which fits its width in bytes, and as many of them as there are widths. -/
abbrev LaidOut (widths values : List Nat) : Prop := List.Forall₂ (fun w v => v < 256 ^ w) widths values

theorem length_joinFields {ws vs : List Nat} (h : LaidOut ws vs) : (joinFields ws vs).length = ws.sum := by
  induction h with
  | nil => rfl
  | cons _ _ ih => simp [joinFields, leBytes_length, ih]

theorem splitFields_joinFields {ws vs : List Nat} (h : LaidOut ws vs) : splitFields ws (joinFields ws vs) = some vs := by
  induction h with
  | nil => rfl
  | cons hv _ ih => simp [joinFields, splitFields, leBytes_length, ih, leNat_leBytes hv]

theorem laidOut_of_fitFields {ws vs : List Nat} (hlength : vs.length = ws.length) (hfits : fitFields ws vs = true) :
    LaidOut ws vs := by
  induction ws generalizing vs with
  | nil => rw [List.length_eq_zero_iff.1 hlength]; exact .nil
  | cons w ws ih =>
    cases vs with
    | nil => simp at hlength
    | cons v vs =>
      simp only [fitFields, Bool.and_eq_true, decide_eq_true_eq] at hfits
      exact .cons hfits.1 (ih (Nat.succ.inj hlength) hfits.2)

theorem laidOut_replicate {w : Nat} {vs : List Nat} (h : ∀ v ∈ vs, v < 256 ^ w) : LaidOut (List.replicate vs.length w) vs := by
  induction vs with
  | nil => exact .nil
  | cons v vs ih =>
    rw [List.forall_mem_cons] at h
    exact .cons h.1 (ih h.2)

theorem mem_fits8 {vs : List Nat} (h : vs.all fits8 = true) : ∀ v ∈ vs, v < 256 ^ 1 := fun v hv => by
  simpa [fits8] using List.all_eq_true.1 h v hv

theorem mem_fits16 {vs : List Nat} (h : vs.all fits16 = true) : ∀ v ∈ vs, v < 256 ^ 2 := fun v hv => by
  simpa [fits16] using List.all_eq_true.1 h v hv

/-! ### The operands of a command -/

/-- The widths in which the operands of a command are laid out: those of its code, a DEFINE's by its kind. -/
def Command.widths : Command → List Nat
  | .define kind _ fields => 1 :: 2 :: (fieldWidths kind).getD (List.replicate fields.length 1)
  | .setPollList _ entries => 2 :: List.replicate entries.length 1
  | c => operandWidths c.code 0 0

theorem operandWidths_define (kind payload : Nat) :
    operandWidths 0x14 payload kind = 1 :: 2 :: (fieldWidths kind).getD (List.replicate (payload - 3) 1) := by
  cases hwidths : fieldWidths kind <;> simp [operandWidths, hwidths]

theorem Command.payload_eq (c : Command) : c.payload = joinFields c.widths c.operands := by
  cases c with
  | define kind number fields =>
    simp [Command.payload, Command.widths, Command.operands, Command.code, operandWidths_define]
  | setPollList position entries =>
    simp [Command.payload, Command.widths, Command.operands, Command.code, operandWidths]
  | _ => rfl

theorem laidOut_stageRows {stages : List StageRow}
    (h : ∀ r ∈ stages, r.coMean < 65536 ∧ r.coInst < 65536 ∧ r.no2Inst < 65536 ∧ r.demand < 256) :
    LaidOut (List.replicate stages.length [2, 2, 2, 1]).flatten
      (stages.flatMap fun r => [r.coMean, r.coInst, r.no2Inst, r.demand]) := by
  induction stages with
  | nil => exact .nil
  | cons r stages ih =>
    rw [List.forall_mem_cons] at h
    obtain ⟨⟨hmean, hinst, hno2, hdemand⟩, hrest⟩ := h
    exact .cons hmean (.cons hinst (.cons hno2 (.cons hdemand (ih hrest))))

theorem laidOut_slots {slots : List SlotOperand}
    (h : ∀ x ∈ slots, x.presence < 256 ∧ x.lower < 65536 ∧ x.upper < 65536 ∧ x.demand < 256) :
    LaidOut (List.replicate slots.length [1, 2, 2, 1]).flatten
      (slots.flatMap fun x => [x.presence, x.lower, x.upper, x.demand]) := by
  induction slots with
  | nil => exact .nil
  | cons x slots ih =>
    rw [List.forall_mem_cons] at h
    obtain ⟨⟨hpresence, hlower, hupper, hdemand⟩, hrest⟩ := h
    exact .cons hpresence (.cons hlower (.cons hupper (.cons hdemand (ih hrest))))

/-- A well-formed command's operands fit the widths of its code. -/
theorem Command.laidOut {c : Command} (h : c.wellFormed = true) : LaidOut c.widths c.operands := by
  cases c with
  | define kind number fields =>
    simp only [Command.wellFormed, Command.lengthFits, Bool.and_eq_true, fits8, fits16, decide_eq_true_eq] at h
    obtain ⟨hlength, ⟨hkind, hnumber⟩, hfields⟩ := h
    refine .cons hkind (.cons hnumber ?_)
    cases hwidths : fieldWidths kind with
    | some ws =>
      rw [hwidths] at hlength hfields
      exact laidOut_of_fitFields (of_decide_eq_true hlength) hfields
    | none =>
      rw [hwidths] at hfields
      exact laidOut_replicate (mem_fits8 (Bool.and_eq_true_iff.1 hfields).1)
  | setPollList position entries =>
    simp only [Command.wellFormed, Bool.and_eq_true] at h
    obtain ⟨-, ⟨hposition, hentries⟩, -⟩ := h
    exact .cons (of_decide_eq_true hposition) (laidOut_replicate (mem_fits8 hentries))
  | setClassTable entries =>
    simp only [Command.wellFormed, Command.lengthFits, Bool.and_eq_true, decide_eq_true_eq] at h
    have hlaid := laidOut_replicate (mem_fits8 h.2)
    rwa [h.1] at hlaid
  | setPenalty penalties =>
    simp only [Command.wellFormed, Command.lengthFits, Bool.and_eq_true, decide_eq_true_eq] at h
    have hlaid := laidOut_replicate (mem_fits16 h.2)
    rwa [h.1] at hlaid
  | setStageTable stages hysteresis dwell =>
    simp only [Command.wellFormed, Command.lengthFits, Bool.and_eq_true, decide_eq_true_eq, List.all_eq_true, fits8,
      fits16, and_assoc] at h
    obtain ⟨hlength, hrows, hhysteresis, hdwell⟩ := h
    have hlaid := laidOut_stageRows hrows
    rw [hlength] at hlaid
    exact List.rel_append hlaid (.cons hhysteresis (.cons hdwell .nil))
  | setTrafficTable level slots =>
    simp only [Command.wellFormed, Command.lengthFits, Bool.and_eq_true, decide_eq_true_eq, List.all_eq_true, fits8,
      fits16, and_assoc] at h
    obtain ⟨hlength, hlevel, hslots⟩ := h
    have hlaid := laidOut_slots hslots
    rw [hlength] at hlaid
    exact .cons hlevel hlaid
  | readStatus | enterConfig | commit | storeProfile | withdrawNewest | queueCount => exact .nil
  | _ =>
    simpa [Command.wellFormed, Command.lengthFits, Command.widths, Command.operands, Command.code, operandWidths, LaidOut,
      fits8, fits16, fits32, and_assoc] using h

/-! ### The command of its operands -/

theorem stageRowsOf_flatMap (stages : List StageRow) :
    stageRowsOf (stages.flatMap fun r => [r.coMean, r.coInst, r.no2Inst, r.demand]) = stages := by
  induction stages with
  | nil => rfl
  | cons r stages ih => exact congrArg (r :: ·) ih

theorem slotsOf_flatMap (slots : List SlotOperand) :
    slotsOf (slots.flatMap fun x => [x.presence, x.lower, x.upper, x.demand]) = slots := by
  induction slots with
  | nil => rfl
  | cons x slots ih => exact congrArg (x :: ·) ih

theorem Command.ofOperands_stageTable (vs : List Nat) :
    Command.ofOperands 0x21 vs =
      some (.setStageTable (stageRowsOf (vs.take 16)) (vs.getD 16 0) (vs.getD 17 0)) := rfl

theorem Command.ofOperands_trafficTable (level : Nat) (vs : List Nat) :
    Command.ofOperands 0x22 (level :: vs) = some (.setTrafficTable level (slotsOf vs)) := rfl

theorem Command.ofOperands_operands {c : Command} (h : c.lengthFits = true) :
    Command.ofOperands c.code c.operands = some c := by
  cases c with
  | setStageTable stages hysteresis dwell =>
    show Command.ofOperands 0x21 ((stages.flatMap fun r => [r.coMean, r.coInst, r.no2Inst, r.demand]) ++ _) = _
    have hrows := stageRowsOf_flatMap stages
    have hlength : (stages.flatMap fun r => [r.coMean, r.coInst, r.no2Inst, r.demand]).length = 16 := by
      simp [List.length_flatMap, of_decide_eq_true h]
    generalize (stages.flatMap fun r => [r.coMean, r.coInst, r.no2Inst, r.demand]) = vs at hrows hlength ⊢
    rw [Command.ofOperands_stageTable, List.take_left' hlength, hrows, List.getD_append_right _ _ _ _ (by omega),
      List.getD_append_right _ _ _ _ (by omega), hlength]
    rfl
  | setTrafficTable level slots =>
    show Command.ofOperands 0x22 (level :: _) = _
    rw [Command.ofOperands_trafficTable, slotsOf_flatMap]
  | _ => rfl

/-! ### The entry of a payload -/

theorem Command.code_lt (c : Command) : c.code < 256 := by cases c <;> simp [Command.code]

theorem Command.inCommandTable_code (c : Command) : inCommandTable c.code = true := by cases c <;> rfl

theorem Command.length_payload {c : Command} (h : c.wellFormed = true) : c.payload.length = c.widths.sum := by
  rw [c.payload_eq, length_joinFields (Command.laidOut h)]

/-- The widths a decoder reads off the code, the length and the first byte of a command's payload are those it was laid out
in. -/
theorem Command.operandWidths_payload {c : Command} (h : c.wellFormed = true) :
    operandWidths c.code c.payload.length (leNat (c.payload.take 1)) = c.widths := by
  rw [Command.length_payload h]
  cases c with
  | define kind number fields =>
    have hkind : leNat ((Command.define kind number fields).payload.take 1) = kind := by
      have hfits : kind < 256 := by
        simp only [Command.wellFormed, Bool.and_eq_true, fits8, decide_eq_true_eq] at h
        exact h.2.1.1
      rw [Command.payload_eq]
      simp [Command.widths, Command.operands, joinFields, leBytes, leNat, Nat.mod_eq_of_lt hfits]
    rw [hkind]
    show operandWidths 0x14 _ kind = _
    rw [operandWidths_define]
    cases hwidths : fieldWidths kind with
    | some ws => simp [Command.widths, hwidths]
    | none =>
      have hcount : (Command.define kind number fields).widths.sum - 3 = fields.length := by
        simp [Command.widths, hwidths]
        omega
      rw [hcount, Command.widths, hwidths]
  | setPollList position entries => simp [Command.widths, Command.code, operandWidths]
  | _ => rfl

theorem decodeEntry_payload {c : Command} (tag : Nat) (h : c.wellFormed = true) :
    decodeEntry tag c.code c.payload = .command tag c := by
  have hsplit : splitFields c.widths c.payload = some c.operands := by
    rw [c.payload_eq]
    exact splitFields_joinFields (Command.laidOut h)
  have hfits : c.lengthFits = true := (Bool.and_eq_true_iff.1 h).1
  simp [decodeEntry, c.inCommandTable_code, Command.operandWidths_payload h, hsplit, Command.ofOperands_operands hfits]

theorem sum_fieldWidths_le {kind : Nat} {ws : List Nat} (h : fieldWidths kind = some ws) : ws.sum ≤ 24 := by
  unfold fieldWidths at h
  split at h <;> cases h <;> decide

/-- A payload is at most 155 bytes, so that a frame is at most 160 (R173). -/
theorem Command.length_payload_le {c : Command} (h : c.wellFormed = true) : c.payload.length ≤ 155 := by
  rw [Command.length_payload h]
  cases c with
  | define kind number fields =>
    simp only [Command.wellFormed, Bool.and_eq_true] at h
    obtain ⟨-, -, hfields⟩ := h
    cases hwidths : fieldWidths kind with
    | some ws =>
      have hsum := sum_fieldWidths_le hwidths
      simp [Command.widths, hwidths]
      omega
    | none =>
      rw [hwidths] at hfields
      have hlength : fields.length ≤ 152 := of_decide_eq_true (Bool.and_eq_true_iff.1 hfields).2
      simp [Command.widths, hwidths]
      omega
  | setPollList position entries =>
    simp only [Command.wellFormed, Bool.and_eq_true, decide_eq_true_eq] at h
    have hlength : entries.length ≤ 153 := h.2.2
    simp [Command.widths]
    omega
  | _ => simp [Command.widths, Command.code, operandWidths]

/-! ### The frame -/

theorem crcGood_withCrc (bytes : List Byte) : crcGood (withCrc bytes) = true := by
  simp [crcGood, withCrc, crcBytes]

/-- A frame whose first byte is its length and whose check code is good makes the entry of its payload (R173). -/
theorem decodeFrame_withCrc {len tag code : Byte} {payload : List Byte} (hlen : len.toNat = payload.length + 5)
    (hmost : payload.length ≤ 155) (more : List Byte) :
    decodeFrame (withCrc (len :: tag :: code :: payload) ++ more) = some (decodeEntry tag.toNat code.toNat payload) := by
  have htake : (withCrc (len :: tag :: code :: payload) ++ more).take len.toNat = withCrc (len :: tag :: code :: payload) :=
    List.take_left' (by simp [withCrc, crcBytes, hlen])
  have hframe : withCrc (len :: tag :: code :: payload) ++ more =
      len :: (tag :: code :: payload ++ crcBytes (crc16 (len :: tag :: code :: payload)) ++ more) := by simp [withCrc]
  have hpayload : ((withCrc (len :: tag :: code :: payload)).drop 3).take (len.toNat - 5) = payload := by
    simp [withCrc, hlen]
  rw [hframe] at htake ⊢
  simp only [decodeFrame, htake, crcGood_withCrc, hpayload]
  rw [if_neg (by omega), if_neg (by omega), if_neg (by simp [crcBytes]; omega)]
  rfl

/-- Settles O9: the frame is found whole, and its operands are read in the widths they were laid out in. -/
theorem framesReadBack : Obligations.FramesReadBack := by
  unfold Obligations.FramesReadBack
  intro tag c more htag h
  have hmost := Command.length_payload_le h
  have hlen : (BitVec.ofNat 8 (c.payload.length + 5)).toNat = c.payload.length + 5 := by
    rw [BitVec.toNat_ofNat]
    omega
  have htagByte : (BitVec.ofNat 8 tag).toNat = tag := by rw [BitVec.toNat_ofNat, Nat.mod_eq_of_lt htag]
  have hcodeByte : (BitVec.ofNat 8 c.code).toNat = c.code := by rw [BitVec.toNat_ofNat, Nat.mod_eq_of_lt c.code_lt]
  rw [encodeFrame, decodeFrame_withCrc hlen hmost, htagByte, hcodeByte, decodeEntry_payload tag h]

end Sys2Proof
end

section
/-! The checks of a command entry in their order (section 9.2). -/

namespace Sys2Proof.Machine
variable {s t : State} {st : Station}

/-! ### The mode check and the busy check -/

/-- An effect that answers neither REFUSED_MODE nor BUSY. -/
structure Effect.Aside (k : Effect) : Prop where
  answers : ∀ r ∈ k.2, r.1 ≠ .refusedMode ∧ r.1 ≠ .busy

/-- An effect that begins with the mode check and the busy check, and answers neither status after them. -/
def Effect.Ordered (mode busy : Bool) (s : State) (e : Effect) : Prop :=
  ∃ k : Effect, k.Aside ∧ e = checked s [(mode, .refusedMode), (busy, .busy)] k

section
variable {k : Effect} {status : Status} {contents : List Byte} {checks : List (Bool × Status)} {mode busy b c : Bool}

theorem aside_answer (hmode : status ≠ .refusedMode) (hbusy : status ≠ .busy) (s : State) (contents : List Byte) :
    (answer s status contents).Aside := ⟨fun r hr => by
  rw [List.mem_singleton.1 hr]
  exact ⟨hmode, hbusy⟩⟩

theorem aside_done (s : State) (contents : List Byte) : (done s contents).Aside := aside_answer (by simp) (by simp) s contents

theorem aside_notFound (s : State) : (refuse s .notFound).Aside := aside_answer (by simp) (by simp) s []

theorem aside_badArgument (s : State) : (refuse s .badArgument).Aside := aside_answer (by simp) (by simp) s []

theorem aside_refusedState (s : State) (contents : List Byte) : (answer s .refusedState contents).Aside :=
  aside_answer (by simp) (by simp) s contents

theorem aside_clamped (s : State) (clamped : Bool) (contents : List Byte) :
    (answer s (clampedStatus clamped) contents).Aside :=
  aside_answer (by cases clamped <;> simp [clampedStatus]) (by cases clamped <;> simp [clampedStatus]) s contents

theorem aside_silent (s : State) : Effect.Aside (s, []) := ⟨fun _ hr => absurd hr List.not_mem_nil⟩

theorem aside_checked (hk : k.Aside) (hchecks : ∀ c ∈ checks, c.2 ≠ .refusedMode ∧ c.2 ≠ .busy := by simp) :
    (checked s checks k).Aside := by
  unfold checked
  split
  next c hfind =>
    obtain ⟨hmode, hbusy⟩ := hchecks c (List.mem_of_find?_eq_some hfind)
    exact aside_answer hmode hbusy s []
  next => exact hk

theorem ordered_none (hk : k.Aside) (hmode : mode = false) (hbusy : busy = false) :
    k.Ordered mode busy s := ⟨k, hk, by simp [hmode, hbusy]⟩

theorem ordered_mode (hk : (checked s checks k).Aside) (hmode : mode = b) (hbusy : busy = false) :
    (checked s ((b, .refusedMode) :: checks) k).Ordered mode busy s := ⟨_, hk, by simp [hmode, hbusy]⟩

theorem ordered_busy (hk : (checked s checks k).Aside) (hmode : mode = false) (hbusy : busy = c) :
    (checked s ((c, .busy) :: checks) k).Ordered mode busy s := ⟨_, hk, by simp [hmode, hbusy]⟩

theorem ordered_both (hk : (checked s checks k).Aside) (hmode : mode = b) (hbusy : busy = c) :
    (checked s ((b, .refusedMode) :: (c, .busy) :: checks) k).Ordered mode busy s := ⟨_, hk, by simp [hmode, hbusy]⟩

end

/-! ### The reads, the fans and the tickets: neither check -/

theorem doReadRecord_aside (kind number part : Nat) (s : State) : (doReadRecord kind number part s).Aside := by
  refine aside_checked ?_
  split
  · exact aside_done ..
  · exact aside_notFound s

theorem doReadLoads_aside (page : Nat) (s : State) : (doReadLoads page s).Aside := by
  unfold doReadLoads
  dsimp only
  split
  · exact ⟨by simp⟩
  · exact aside_done ..

theorem doClearFan_aside (ch : Nat) (s : State) : (doClearFan ch s).Aside := by
  refine aside_checked ?_
  split
  · exact aside_notFound s
  · dsimp only
    split
    · exact aside_done ..
    · exact aside_refusedState ..

theorem doIsolateFan_aside (ch : Nat) (s : State) : (doIsolateFan ch s).Aside := by
  refine aside_checked ?_
  split
  · exact aside_notFound s
  · split
    · exact aside_done ..
    · exact aside_done ..

theorem doRestoreFan_aside (ch : Nat) (s : State) : (doRestoreFan ch s).Aside := by
  refine aside_checked ?_
  split
  · exact aside_notFound s
  · split
    · split
      · exact aside_done ..
      · exact aside_done ..
    · exact aside_refusedState ..

theorem doWithdraw_aside (st : Station) (t : Nat) (s : State) : (doWithdraw st t s).Aside := by
  refine aside_checked ?_
  split
  · exact aside_done ..
  · split
    · exact aside_refusedState ..
    · exact aside_notFound s

theorem doWithdrawNewest_aside (st : Station) (s : State) : (doWithdrawNewest st s).Aside := by
  unfold doWithdrawNewest
  split
  · exact aside_done ..
  · exact aside_notFound s

theorem doCancelHold_aside (t : Nat) (s : State) : (doCancelHold t s).Aside := by
  refine aside_checked ?_
  split
  · exact aside_done ..
  · split
    · exact aside_refusedState ..
    · exact aside_notFound s

theorem doClaimBay_aside (st : Station) (bay expected : Nat) (s : State) : (doClaimBay st bay expected s).Aside := by
  refine aside_checked ?_
  split
  · exact aside_notFound s
  · split
    · exact aside_done ..
    · exact aside_answer (by simp) (by simp) ..

theorem doReleaseClaim_aside (bay : Nat) (s : State) : (doReleaseClaim bay s).Aside := by
  refine aside_checked ?_
  split
  · exact aside_notFound s
  · split
    · exact aside_done ..
    all_goals exact aside_refusedState ..

theorem doCloseBay_aside (bay : Nat) (s : State) : (doCloseBay bay s).Aside := by
  refine aside_checked ?_
  split
  · exact aside_notFound s
  · exact aside_done ..

theorem doOpenBay_aside (bay : Nat) (s : State) : (doOpenBay bay s).Aside := by
  refine aside_checked ?_
  split
  · exact aside_notFound s
  · split
    · exact aside_done ..
    · exact aside_refusedState ..

/-! ### The commands of one mode, and those refused during a profile write -/

/-- A command in the wrong mode: one of RUN mode alone in CONFIG mode, or the other way round. -/
def wrongMode (c : Command) (s : State) : Bool := runOnly c && !s.inRun || configOnly c && s.inRun

/-- The effect of a command begins with its mode check and its busy check. -/
def Orderly (c : Command) (s : State) (e : Effect) : Prop :=
  e.Ordered (wrongMode c s) (busyRefused c && s.writing) s

theorem doCommit_orderly (s : State) : Orderly .commit s (doCommit s) := by
  refine ordered_both (aside_checked ?_) (by simp [wrongMode, runOnly, configOnly]) (by simp [busyRefused])
  split
  · exact aside_answer (by simp) (by simp) ..
  · exact aside_done ..

theorem doRestart_orderly (operand : Nat) (s : State) : Orderly (Command.restart operand) s (doRestart operand s) := by
  have hmode : wrongMode (.restart operand) s = false := rfl
  unfold doRestart
  by_cases hhard : operand = 0
  · rw [if_pos hhard]
    exact ordered_none (aside_silent _) hmode (by simp [busyRefused, hhard])
  · rw [if_neg hhard]
    by_cases hsoft : operand = 1
    · rw [if_pos hsoft]
      exact ordered_busy (aside_checked (aside_silent _)) hmode (by simp [busyRefused, hsoft])
    · rw [if_neg hsoft]
      exact ordered_none (aside_badArgument s) hmode (by simp [busyRefused, hsoft])

theorem doDefine_orderly (kind number : Nat) (fields : List Nat) (s : State) :
    Orderly (Command.define kind number fields) s (doDefine kind number fields s) := by
  refine ordered_both (aside_checked ?_) (by simp [wrongMode, runOnly, configOnly]) (by simp [busyRefused])
  split
  · exact aside_done ..
  · exact aside_badArgument s

theorem doDelete_orderly (kind number : Nat) (s : State) :
    Orderly (Command.delete kind number) s (doDelete kind number s) := by
  refine ordered_both (aside_checked ?_) (by simp [wrongMode, runOnly, configOnly]) (by simp [busyRefused])
  split
  · exact aside_done ..
  · exact aside_notFound s

theorem doVentOverride_orderly (zone demand duration : Nat) (s : State) :
    Orderly (Command.ventOverride zone demand duration) s (doVentOverride zone demand duration s) := by
  refine ordered_mode (aside_checked ?_) (by simp [wrongMode, runOnly, configOnly]) rfl
  split
  · exact aside_done ..
  · exact aside_clamped ..

theorem doSetFlowPattern_orderly (zone pattern : Nat) (s : State) :
    Orderly (Command.setFlowPattern zone pattern) s (doSetFlowPattern zone pattern s) := by
  refine ordered_both (aside_checked ?_) (by simp [wrongMode, runOnly, configOnly]) (by simp [busyRefused])
  split
  · exact aside_notFound s
  · exact aside_done ..

theorem doManualFan_orderly (ch speed : Nat) (s : State) :
    Orderly (Command.manualFan ch speed) s (doManualFan ch speed s) := by
  refine ordered_mode (aside_checked ?_) (by simp [wrongMode, runOnly, configOnly]) rfl
  split
  · exact aside_notFound s
  · split
    · exact aside_clamped ..
    · exact aside_refusedState ..

theorem doCensus_orderly (level : Nat) (s : State) : Orderly (Command.census level) s (doCensus level s) := by
  refine ordered_mode (aside_checked ?_) (by simp [wrongMode, runOnly, configOnly]) rfl
  split
  · exact aside_done ..
  · exact aside_done ..

theorem execute_orderly (st : Station) (c : Command) (s : State) : Orderly c s (execute st c s) := by
  cases c with
  | readStatus => exact ordered_none (aside_done ..) rfl rfl
  | readEvents count => exact ordered_none (aside_checked (aside_done ..)) rfl rfl
  | setEventMask mask => exact ordered_busy (aside_checked (aside_done ..)) rfl rfl
  | readRecord kind number part => exact ordered_none (doReadRecord_aside ..) rfl rfl
  | readQueue page => exact ordered_none (aside_done ..) rfl rfl
  | readHolds page => exact ordered_none (aside_done ..) rfl rfl
  | readLoads page => exact ordered_none (doReadLoads_aside ..) rfl rfl
  | enterConfig => exact ordered_both (aside_checked (aside_done ..)) (by simp [wrongMode, runOnly, configOnly]) rfl
  | commit => exact doCommit_orderly s
  | storeProfile => exact ordered_busy (aside_checked (aside_answer (by simp) (by simp) ..)) rfl rfl
  | restart operand => exact doRestart_orderly operand s
  | define kind number fields => exact doDefine_orderly ..
  | delete kind number => exact doDelete_orderly ..
  | setPollList position entries => exact ordered_both (aside_checked (aside_done ..)) rfl rfl
  | setClassTable entries => exact ordered_both (aside_checked (aside_done ..)) rfl rfl
  | setPenalty penalties => exact ordered_both (aside_checked (aside_done ..)) rfl rfl
  | setAllowance normal shed => exact ordered_busy (aside_checked (aside_clamped ..)) rfl rfl
  | setStageTable stages hysteresis dwell => exact ordered_both (aside_checked (aside_done ..)) rfl rfl
  | setTrafficTable level slots => exact ordered_busy (aside_checked (aside_done ..)) rfl rfl
  | ventOverride zone demand duration => exact doVentOverride_orderly ..
  | setFlowPattern zone pattern => exact doSetFlowPattern_orderly ..
  | clearFan channel => exact ordered_none (doClearFan_aside ..) rfl rfl
  | isolateFan channel => exact ordered_none (doIsolateFan_aside ..) rfl rfl
  | restoreFan channel => exact ordered_none (doRestoreFan_aside ..) rfl rfl
  | manualFan channel speed => exact doManualFan_orderly ..
  | census level => exact doCensus_orderly ..
  | setLightLevels row base active hold fade => exact ordered_busy (aside_checked (aside_clamped ..)) rfl rfl
  | setGuidanceTimes maxWait holdTime substitution => exact ordered_busy (aside_checked (aside_clamped ..)) rfl rfl
  | requestBay cls lane priority =>
    exact ordered_mode (aside_checked (aside_done ..)) (by simp [wrongMode, runOnly, configOnly]) rfl
  | withdraw ticket => exact ordered_none (doWithdraw_aside ..) rfl rfl
  | withdrawNewest => exact ordered_none (doWithdrawNewest_aside ..) rfl rfl
  | cancelHold ticket => exact ordered_none (doCancelHold_aside ..) rfl rfl
  | queueCount => exact ordered_none (aside_done ..) rfl rfl
  | claimBay bay expected => exact ordered_none (doClaimBay_aside ..) rfl rfl
  | releaseClaim bay => exact ordered_none (doReleaseClaim_aside ..) rfl rfl
  | closeBay bay => exact ordered_none (doCloseBay_aside ..) rfl rfl
  | openBay bay => exact ordered_none (doOpenBay_aside ..) rfl rfl

end Sys2Proof.Machine
end

section
/-! Payloads of the wrong length (sections 9.2 and 9.8). -/

namespace Sys2Proof
variable {code payload first : Nat} {vs : List Nat}

/-! ### Payloads cut into operands -/

theorem splitFields_eq_none_iff (ws : List Nat) (bytes : List Byte) :
    splitFields ws bytes = none ↔ ws.sum ≠ bytes.length := by
  induction ws generalizing bytes with
  | nil => cases bytes <;> simp [splitFields]
  | cons w ws ih =>
    rw [splitFields]
    split
    next hshort =>
      rw [List.sum_cons]
      exact ⟨fun _ => by omega, fun _ => rfl⟩
    next hlong =>
      rw [Option.map_eq_none_iff, ih, List.length_drop, List.sum_cons]
      omega

theorem length_of_splitFields {ws : List Nat} {bytes : List Byte} (h : splitFields ws bytes = some vs) :
    vs.length = ws.length := by
  induction ws generalizing bytes vs with
  | nil =>
    cases bytes with
    | nil => cases h; rfl
    | cons b bytes => simp [splitFields] at h
  | cons w ws ih =>
    rw [splitFields] at h
    split at h
    next => simp at h
    next =>
      obtain ⟨us, hus, rfl⟩ := Option.map_eq_some_iff.1 h
      exact congrArg Nat.succ (ih hus)

/-! ### The codes by how many operands they take -/

/-- The codes of the table that take no operand. -/
def noOperand : List Nat := [0x01, 0x10, 0x11, 0x12, 0x32, 0x34]

/-- The codes that take one operand. -/
def oneOperand : List Nat := [0x02, 0x03, 0x05, 0x06, 0x07, 0x13, 0x25, 0x26, 0x27, 0x29, 0x31, 0x33, 0x39, 0x3A, 0x3B]

/-- The codes that take two operands. -/
def twoOperands : List Nat := [0x15, 0x20, 0x24, 0x28, 0x38]

/-- The codes that take three operands. -/
def threeOperands : List Nat := [0x04, 0x23, 0x2B, 0x30]

/-- The codes that take more operands, or a number of their own. -/
def manyOperands : List Nat := [0x14, 0x16, 0x17, 0x18, 0x21, 0x22, 0x2A]

theorem mem_operandCodes (h : inCommandTable code = true) :
    code ∈ noOperand ∨ code ∈ oneOperand ∨ code ∈ twoOperands ∨ code ∈ threeOperands ∨ code ∈ manyOperands := by
  simp only [inCommandTable, Bool.or_eq_true, Bool.and_eq_true, decide_eq_true_eq] at h
  simp only [noOperand, oneOperand, twoOperands, threeOperands, manyOperands, List.mem_cons, List.not_mem_nil, or_false]
  omega

section
variable (hlength : vs.length = (operandWidths code payload first).length)
include hlength

theorem isSome_of_noOperand (h : code ∈ noOperand) : (Command.ofOperands code vs).isSome = true := by
  have hnone : (operandWidths code payload first).length = 0 := by fin_cases h <;> rfl
  rw [List.length_eq_zero_iff.1 (hlength.trans hnone)]
  fin_cases h <;> rfl

theorem isSome_of_oneOperand (h : code ∈ oneOperand) : (Command.ofOperands code vs).isSome = true := by
  have hone : (operandWidths code payload first).length = 1 := by fin_cases h <;> rfl
  obtain ⟨a, rfl⟩ := List.length_eq_one_iff.1 (hlength.trans hone)
  fin_cases h <;> rfl

theorem isSome_of_twoOperands (h : code ∈ twoOperands) : (Command.ofOperands code vs).isSome = true := by
  have htwo : (operandWidths code payload first).length = 2 := by fin_cases h <;> rfl
  obtain ⟨a, b, rfl⟩ := List.length_eq_two.1 (hlength.trans htwo)
  fin_cases h <;> rfl

theorem isSome_of_threeOperands (h : code ∈ threeOperands) : (Command.ofOperands code vs).isSome = true := by
  have hthree : (operandWidths code payload first).length = 3 := by fin_cases h <;> rfl
  obtain ⟨a, b, c, rfl⟩ := List.length_eq_three.1 (hlength.trans hthree)
  fin_cases h <;> rfl

end

theorem isSome_of_define (hlength : vs.length = (operandWidths 0x14 payload first).length) :
    (Command.ofOperands 0x14 vs).isSome = true := by
  rw [operandWidths_define] at hlength
  match vs, hlength with
  | _ :: _ :: _, _ => rfl

theorem isSome_of_pollList (hlength : vs.length = (operandWidths 0x16 payload first).length) :
    (Command.ofOperands 0x16 vs).isSome = true := by
  match vs, hlength with
  | _ :: _, _ => rfl

theorem isSome_of_trafficTable (hlength : vs.length = (operandWidths 0x22 payload first).length) :
    (Command.ofOperands 0x22 vs).isSome = true := by
  match vs, hlength with
  | _ :: _, _ => rfl

theorem isSome_of_lightLevels (hlength : vs.length = (operandWidths 0x2A payload first).length) :
    (Command.ofOperands 0x2A vs).isSome = true := by
  match vs, hlength with
  | [_, _, _, _, _], _ => rfl

/-- As many operands as a code's widths make a command. -/
theorem Command.ofOperands_isSome (h : inCommandTable code = true)
    (hlength : vs.length = (operandWidths code payload first).length) : (Command.ofOperands code vs).isSome = true := by
  rcases mem_operandCodes h with hcode | hcode | hcode | hcode | hcode
  · exact isSome_of_noOperand hlength hcode
  · exact isSome_of_oneOperand hlength hcode
  · exact isSome_of_twoOperands hlength hcode
  · exact isSome_of_threeOperands hlength hcode
  · simp only [manyOperands, List.mem_cons, List.not_mem_nil, or_false] at hcode
    rcases hcode with rfl | rfl | rfl | rfl | rfl | rfl | rfl
    · exact isSome_of_define hlength
    · exact isSome_of_pollList hlength
    · rfl
    · rfl
    · rfl
    · exact isSome_of_trafficTable hlength
    · exact isSome_of_lightLevels hlength

/-- A payload is a misfit where the widths of its code's operands do not add up to it (R176). -/
theorem decodeEntry_eq_misfit_iff (tag : Nat) {bytes : List Byte} (h : inCommandTable code = true) :
    decodeEntry tag code bytes = .misfit tag code ↔
      (operandWidths code bytes.length (leNat (bytes.take 1))).sum ≠ bytes.length := by
  rw [← splitFields_eq_none_iff, decodeEntry, if_pos h]
  cases hsplit : splitFields (operandWidths code bytes.length (leNat (bytes.take 1))) bytes with
  | none => simp
  | some vs =>
    obtain ⟨c, hc⟩ := Option.isSome_iff_exists.1 (Command.ofOperands_isSome h (length_of_splitFields hsplit))
    simp [hc]

/-- READ_LOADS is the one command of code 7. -/
theorem Command.eq_readLoads {c : Command} (h : c.code = 0x07) : ∃ page, c = .readLoads page := by
  cases c with
  | readLoads page => exact ⟨page, rfl⟩
  | _ => simp [Command.code] at h

end Sys2Proof

namespace Sys2Proof.Machine
variable {s t : State} {st : Station} {i : Instr} {c : Command} {tag code : Nat}

/-! ### The class and the length -/

theorem judgeEntry_refusedClass (tag : Nat) (h : inClass c.code st = false) :
    judgeEntry st (.command tag c) s = (s, [(.refusedClass, [])]) := by
  simp [judgeEntry, h, refuse, answer]

theorem judgeEntry_badArgument (tag : Nat) (hclass : inClass c.code st = true) (h : c.lengthFits = false) :
    judgeEntry st (.command tag c) s = (s, [(.badArgument, [])]) := by
  simp [judgeEntry, hclass, h, refuse, answer]

theorem judgeEntry_misfit (tag code : Nat) :
    judgeEntry st (.misfit tag code) s = (s, [(if inClass code st then .badArgument else .refusedClass, [])]) := by
  cases hclass : inClass code st <;> simp [judgeEntry, hclass, refuse, answer]

/-- A frame whose payload is of the wrong length is answered as it arrives (R176). -/
theorem exec_misfitReceived {out : Option Response} {bytes : List Byte} (hready : Ready s st = true)
    (hopen : (s.port st).transaction = .active out false) (hframe : decodeFrame bytes = some (.misfit tag code))
    (hroom : code = 0x07 → (s.port st).responses = []) :
    exec (.commandFrameReceived st bytes) s =
      replies (s.setPort st { s.port st with transaction := .active out true }) st tag code
        (if inClass code st then .badArgument else .refusedClass) []
        (s.setPort st { s.port st with transaction := .active out true }) := by
  have hrun := ready_held hready
  have hslots : (s.port st).responses.length + slotsNeeded (.misfit tag code) ≤ 2 := by
    by_cases hseven : code = 0x07
    · simp [slotsNeeded, entryEcho, hseven, hroom hseven]
    · have := ready_responses hready
      simp [slotsNeeded, entryEcho, hseven]
      omega
  have hjudged := judgeEntry_misfit (st := st) (s := s.setPort st { s.port st with transaction := .active out true }) tag code
  show execCommandFrameReceived st bytes s = _
  rw [execCommandFrameReceived, if_neg (by simp [hrun]), frameBytes_of_open hopen hframe, ← receive_of_running (by simp [hrun]),
    receive_taken _ _ _ (by simp [hrun]) (by simp [ready_commands hready]) (by simpa using hslots), hjudged]
  rfl

/-! ### The mode and the busy check -/

theorem execute_of_wrongMode (h : wrongMode c s = true) : execute st c s = (s, [(.refusedMode, [])]) := by
  obtain ⟨k, -, he⟩ := execute_orderly st c s
  simp [he, h, refuse, answer]

theorem execute_of_busy (hmode : wrongMode c s = false) (hbusy : busyRefused c = true) (hwriting : s.writing = true) :
    execute st c s = (s, [(.busy, [])]) := by
  obtain ⟨k, -, he⟩ := execute_orderly st c s
  simp [he, hmode, hbusy, hwriting, refuse, answer]

theorem execute_statuses {r : Status × List Byte} (hr : r ∈ (execute st c s).2) :
    (r.1 = .refusedMode → wrongMode c s = true) ∧ (r.1 = .busy → busyRefused c = true ∧ s.writing = true) := by
  obtain ⟨k, hk, he⟩ := execute_orderly st c s
  rw [he, checked_cons, checked_cons, checked_nil] at hr
  split at hr
  next hmode =>
    rw [List.mem_singleton.1 hr]
    exact ⟨fun _ => hmode, fun h => absurd h (by simp)⟩
  next =>
    split at hr
    next hbusy =>
      rw [List.mem_singleton.1 hr]
      exact ⟨fun h => absurd h (by simp), fun _ => Bool.and_eq_true_iff.1 hbusy⟩
    next => exact ⟨fun h => absurd h (hk.answers r hr).1, fun h => absurd h (hk.answers r hr).2⟩

/-- Settles O10: the checks before any block, the misfits, and the mode and busy checks. -/
theorem commandChecksInOrder : Obligations.CommandChecksInOrder := by
  unfold Obligations.CommandChecksInOrder
  refine ⟨fun s st tag hready => ⟨fun i c hi hclass => ?wrongClass, fun i c hi hclass hlength => ?wrongLength, fun code hcode => ?unknown,
      ?badFrame, fun out bytes code hopen hframe hroom => exec_misfitReceived hready hopen hframe hroom⟩,
    fun tag code payload hcode => decodeEntry_eq_misfit_iff tag hcode,
    fun i s st tag c hi hready hclass hlength => ⟨fun hmode => ?wrongMode, fun hmode hbusy hwriting => ?busy,
      fun r hr => execute_statuses hr⟩⟩
  case wrongClass =>
    have hseven : c.code ≠ 0x07 := fun h => by simp [h, inClass] at hclass
    exact exec_judged i st (.command tag c) s s .refusedClass [] hi hready hseven (judgeEntry_refusedClass tag hclass)
  case wrongLength =>
    have hseven : c.code ≠ 0x07 := fun h => by
      obtain ⟨page, rfl⟩ := Command.eq_readLoads h
      simp [Command.lengthFits] at hlength
    exact exec_judged i st (.command tag c) s s .badArgument [] hi hready hseven (judgeEntry_badArgument tag hclass hlength)
  case unknown =>
    have hseven : code ≠ 0x07 := fun h => by simp [h, inCommandTable] at hcode
    exact exec_judged (.unknownCommand st tag code) st (.unknown tag code) s s .unknownCommand [] rfl hready hseven rfl
  case badFrame => exact exec_judged (.badFrameEntry st tag) st (.badFrame tag) s s .badFrame [] rfl hready (by simp [entryEcho]) rfl
  case wrongMode =>
    have hseven : c.code ≠ 0x07 := fun h => by
      obtain ⟨page, rfl⟩ := Command.eq_readLoads h
      simp [runOnly, configOnly] at hmode
    exact exec_answers hi hready rfl hseven hclass hlength (execute_of_wrongMode hmode)
  case busy =>
    have hseven : c.code ≠ 0x07 := fun h => by
      obtain ⟨page, rfl⟩ := Command.eq_readLoads h
      simp [busyRefused] at hbusy
    exact exec_answers hi hready rfl hseven hclass hlength (execute_of_busy hmode hbusy hwriting)

end Sys2Proof.Machine
end
